-- ==== Sys2Proof/Word.lean ====
section
/-! DEFINITION. The word types of the link engine (00_scope.md rules R12 and R14): every number of the
block is an unsigned integer of a fixed width, and no signed value exists. -/
namespace Sys2Proof

/-- `u8`: an octet of the line, of a payload or of a checksum (R12, R14). -/
abbrev Byte := BitVec 8

/-- A station address, 8 bits: 0..127 are master addresses, 255 is broadcast (R12, R101). -/
abbrev Addr := BitVec 8

/-- A time value: an unsigned 64-bit count of microseconds (R12, R340). -/
abbrev Time := BitVec 64

/-- An octet sequence in wire order, first transmitted first (R15). -/
abbrev Octets := List Byte

end Sys2Proof
end

