-- ==== Sys2Proof/Config.lean ====
section
/-! DEFINITION. What is fixed for one machine: the configuration record that RESET supplies
(00_scope.md R10), the build parameters (R11), and the wire constants and the constants of the two checksum
functions, named once as R13 asks (30_encoding.md R143, R144, R147, R148, R150, R155; event codes of R172). -/
namespace Sys2Proof

/-- The reading of `T_reply_delay` (R10, conflict C1).
A RESET operand may name neither reading: `invalid` keeps such a value, and R451 then finds the
configuration invalid. -/
inductive ReplyDelaySemantics where
  /-- The delay is the deadline for the reply (R286). -/
  | maximum
  /-- The delay is a minimum wait before the reply (R287). -/
  | minimum
  /-- Neither MAXIMUM nor MINIMUM: refused by the configuration check (R451). -/
  | invalid (code : Byte)
deriving DecidableEq, Repr

/-- The configuration record `CFG` of R10, one field per row.
`nmaxInfoFrames` and `npoll` are 16 bits wide so that the upper bounds 255 of R451 are real checks
(DESIGN CHOICE, log entry 5). -/
structure Cfg where
  /-- `This_Station`, the station's own address. -/
  thisStation : Addr
  /-- `Nmax_master`, the highest possible master address. -/
  nmaxMaster : Addr
  /-- `Nmax_info_frames`, the most payload frames per token hold. -/
  nmaxInfoFrames : BitVec 16
  /-- `Npoll`, the token rotations between poll cycles. -/
  npoll : BitVec 16
  /-- `bit_rate`, in bit/s. -/
  bitRate : BitVec 32
  /-- `T_reply_timeout`, in microseconds. -/
  tReplyTimeout : BitVec 32
  /-- `T_reply_delay`, in microseconds. -/
  tReplyDelay : BitVec 32
  /-- `T_usage_timeout`, in microseconds. -/
  tUsageTimeout : BitVec 32
  /-- `T_no_token`, in microseconds. -/
  tNoToken : BitVec 32
  /-- `T_poll_timeout`, in microseconds. -/
  tPollTimeout : BitVec 32
  /-- `N_frame_abort_bits`, in bit times. -/
  nFrameAbortBits : BitVec 16
  /-- `N_turnaround_bits`, in bit times. -/
  nTurnaroundBits : BitVec 16
  /-- `reply_delay_semantics`. -/
  replyDelaySemantics : ReplyDelaySemantics
deriving DecidableEq, Repr

/-- The configuration with every default of R10; `This_Station` has none and must be given. -/
def Cfg.default (station : Addr) : Cfg where
  thisStation := station
  nmaxMaster := 127
  nmaxInfoFrames := 1
  npoll := 50
  bitRate := 38400
  tReplyTimeout := 255000
  tReplyDelay := 250000
  tUsageTimeout := 50000
  tNoToken := 1000000
  tPollTimeout := 5000
  nFrameAbortBits := 60
  nTurnaroundBits := 40
  replyDelaySemantics := .maximum

/-- The build parameters of R11, fixed for one instance of the block and left open by the spec
(92_eei_decisions.md, Open parameters): a model takes each as an argument. -/
structure BuildParams where
  /-- `P_MAX_PAYLOAD`, the largest payload stored, sent or accepted. -/
  maxPayload : Nat
  /-- `P_OUTQ_CAP`, the outbound queue's capacity in entries. -/
  outqCap : Nat
  /-- `P_INQ_CAP`, the inbound queue's capacity in entries. -/
  inqCap : Nat
deriving DecidableEq, Repr

/-- The ranges R11 gives the build parameters. -/
abbrev BuildParams.wf (b : BuildParams) : Prop :=
  b.maxPayload ≤ 65535 ∧ 1 ≤ b.outqCap ∧ 1 ≤ b.inqCap

/-- The default build parameters of R11 (decisions D8 and D10). -/
def BuildParams.default : BuildParams where
  maxPayload := 501
  outqCap := 8
  inqCap := 8

/-- First octet of the synchronization pattern (R143). -/
abbrev sync1 : Byte := 0x55
/-- Second octet of the synchronization pattern (R143). -/
abbrev sync2 : Byte := 0xFF
/-- The destination that means all stations (R148). -/
abbrev broadcast : Addr := 255

/-- Frame-type tag of TOKEN (R144). -/
abbrev tagToken : Byte := 0x00
/-- Frame-type tag of PFM (R144). -/
abbrev tagPfm : Byte := 0x01
/-- Frame-type tag of RPFM (R144). -/
abbrev tagRpfm : Byte := 0x02
/-- Frame-type tag of TEST_REQUEST (R144). -/
abbrev tagTestRequest : Byte := 0x03
/-- Frame-type tag of TEST_RESPONSE (R144). -/
abbrev tagTestResponse : Byte := 0x04
/-- Frame-type tag of DER (R144). -/
abbrev tagDer : Byte := 0x05
/-- Frame-type tag of DNER (R144). -/
abbrev tagDner : Byte := 0x06
/-- The lowest vendor-private tag (R146). -/
abbrev vendorBase : Byte := 0x80

/-- The seven assigned tags (R144); every other octet is an unassigned tag below `vendorBase` (R145) or a
vendor-private one (R146). -/
def assignedTags : List Byte :=
  [tagToken, tagPfm, tagRpfm, tagTestRequest, tagTestResponse, tagDer, tagDner]

/-- The reject set of WAIT_FOR_REPLY, as the list of four exclusions that R147 asks for. -/
def rejectSet : List Byte := [tagToken, tagPfm, tagRpfm, tagTestRequest]

/-- The header checksum's reflected generator constant (R150, decision D3). -/
abbrev crc8Poly : Byte := 0x81
/-- The header checksum's initial register (R150), which is also the reset value of `RX_HCRC` (R62). -/
abbrev crc8Init : Byte := 0xFF
/-- The payload checksum's reflected generator constant (R155, decision D4). -/
abbrev crc16Poly : BitVec 16 := 0x8408
/-- The payload checksum's initial register (R155), which is also the reset value of `RX_DCRC` (R64). -/
abbrev crc16Init : BitVec 16 := 0xFFFF

/-- Event code of RESET (R172). -/
abbrev codeReset : Byte := 0
/-- Event code of TICK (R172). -/
abbrev codeTick : Byte := 1
/-- Event code of OCTET (R172). -/
abbrev codeOctet : Byte := 2
/-- Event code of ENQUEUE (R172). -/
abbrev codeEnqueue : Byte := 3
/-- Event code of DEQUEUE (R172). -/
abbrev codeDequeue : Byte := 4
/-- Event code of ANSWER (R172). -/
abbrev codeAnswer : Byte := 5
/-- Event code of NO_ANSWER (R172). -/
abbrev codeNoAnswer : Byte := 6

end Sys2Proof
end

