-- ==== Sys2Proof/Syntax.lean ====
section
/-! DEFINITION. The instruction set: the nine received frame types (30_encoding.md R144 to R146) and the
seven input events (R170, R172), one constructor for each mnemonic of opcode_table.json. -/
namespace Sys2Proof

/-- The kind of a frame, by its tag (R144 to R146). An unassigned or vendor tag is kept. -/
inductive FrameType where
  | token
  | pfm
  | rpfm
  | testRequest
  | testResponse
  | der
  | dner
  | unrecognized (tag : Byte)
  | vendor (tag : Byte)
deriving DecidableEq, Repr

/-- A received frame less its type: what R141 gives the state machine. `len` is the length field as
received, and `payloadOk` is true when the payload was received intact or the length is 0. -/
structure Received where
  dest : Addr
  src : Addr
  len : BitVec 16
  payload : Octets
  payloadOk : Bool
deriving DecidableEq, Repr

/-- A frame the receiver has completed: its tag octet and the rest (R141, R199). -/
structure RxFrame where
  tag : Byte
  body : Received
deriving DecidableEq, Repr

/-- The instructions. The frame types come first, in the order of opcode_table.json, then the events.
A frame instruction is what the receiver hands to the state machine when a frame completes
(40_frame_codec.md R200); an event is what a port delivers (10_state.md R80). -/
inductive Instr where
  /-- TOKEN, tag 0x00 (R309). -/
  | token (f : Received)
  /-- PFM, poll-for-master, tag 0x01 (R310). -/
  | pfm (f : Received)
  /-- RPFM, reply-to-poll-for-master, tag 0x02 (R311). -/
  | rpfm (f : Received)
  /-- TEST_REQUEST, tag 0x03 (R312). -/
  | testRequest (f : Received)
  /-- TEST_RESPONSE, tag 0x04 (R313). -/
  | testResponse (f : Received)
  /-- DER, data expecting reply, tag 0x05 (R314). -/
  | der (f : Received)
  /-- DNER, data not expecting reply, tag 0x06 (R315). -/
  | dner (f : Received)
  /-- UNRECOGNIZED, tags 0x07..0x7F, the tag kept (R316). -/
  | unrecognized (tag : Byte) (f : Received)
  /-- VENDOR, tags 0x80..0xFF, the tag kept (R317). -/
  | vendor (tag : Byte) (f : Received)
  /-- RESET, event code 0, on port CONTROL (R450). -/
  | reset (t : Time) (cfg : Cfg)
  /-- TICK, event code 1, on port CLOCK (R248). -/
  | tick (t : Time)
  /-- OCTET, event code 2, on port LINE_RX (R194). -/
  | octet (t : Time) (b : Byte)
  /-- ENQUEUE, event code 3, on port HOST_OUT (R370). -/
  | enqueue (t : Time) (payload : Octets) (dest : Addr) (expectsReply : Bool)
  /-- DEQUEUE, event code 4, on port HOST_IN (R380). -/
  | dequeue (t : Time)
  /-- ANSWER, event code 5, on port HOST_ANSWER (R385). -/
  | answer (t : Time) (payload : Octets)
  /-- NO_ANSWER, event code 6, on port HOST_ANSWER (R387). -/
  | noAnswer (t : Time)
deriving DecidableEq, Repr

end Sys2Proof
end

