-- ==== Sys2Proof/WellFormed.lean ====
section
/-! DEFINITION. Well-formedness of instructions: the operand ranges of 30_encoding.md R141, R145, R146 and the
one of 00_scope.md R10 that the operand's type does not already give. -/
namespace Sys2Proof

/-- A received frame as the receiver can build it (R141, R197, R199), for a block that stores payloads of at
most `maxPayload` octets: an intact payload has the length the header states and fits, and a payload that
failed is empty and had a length. -/
def Received.wf (maxPayload : Nat) (f : Received) : Bool :=
  if f.payloadOk then
    decide (f.payload.length = f.len.toNat) && decide (f.len.toNat ≤ maxPayload)
  else
    f.payload.isEmpty && decide (f.len ≠ 0)

/-- A tag of the unassigned range 0x07..0x7F (R145): none of the assigned ones, and below the vendor-private range. -/
def unrecognizedTag (tag : Byte) : Bool :=
  decide (tag ∉ assignedTags) && decide (tag < vendorBase)

/-- A tag of the vendor-private range 0x80..0xFF (R146), in which no assigned tag lies. -/
def vendorTag (tag : Byte) : Bool :=
  decide (tag ∉ assignedTags) && decide (vendorBase ≤ tag)

/-- An invalid `reply_delay_semantics` names neither MAXIMUM (0) nor MINIMUM (1). -/
def ReplyDelaySemantics.wf : ReplyDelaySemantics → Bool
  | .maximum => true
  | .minimum => true
  | .invalid c => decide (2 ≤ c)

/-- The well-formed instructions of a block with the given `P_MAX_PAYLOAD`. -/
def Instr.wf (maxPayload : Nat) : Instr → Bool
  | .token f => f.wf maxPayload
  | .pfm f => f.wf maxPayload
  | .rpfm f => f.wf maxPayload
  | .testRequest f => f.wf maxPayload
  | .testResponse f => f.wf maxPayload
  | .der f => f.wf maxPayload
  | .dner f => f.wf maxPayload
  | .unrecognized tag f => unrecognizedTag tag && f.wf maxPayload
  | .vendor tag f => vendorTag tag && f.wf maxPayload
  | .reset _ cfg => cfg.replyDelaySemantics.wf
  | .tick _ => true
  | .octet _ _ => true
  | .enqueue _ _ _ _ => true
  | .dequeue _ => true
  | .answer _ _ => true
  | .noAnswer _ => true

end Sys2Proof
end

