-- ==== Sys2Proof/Decode.lean ====
section
/-! DEFINITION. The decoder and, after it, the encoder: octet order (20_memory.md R110), both checksums
(30_encoding.md R150, R155), the wire frame (R140 to R142, R160), the frame types (R144 to R146) and the
event records that the ports deliver (R172; the operand layout is log entry 2). -/
namespace Sys2Proof

/-! ## Octet order -/

/-- Two octets, most significant first, as one 16-bit value (R110, the length field). -/
def joinBE16 (hi lo : Byte) : BitVec 16 :=
  (hi.setWidth 16 <<< 8) ||| lo.setWidth 16

/-- Two octets, least significant first, as one 16-bit value (R110, the payload checksum). -/
def joinLE16 (lo hi : Byte) : BitVec 16 :=
  lo.setWidth 16 ||| (hi.setWidth 16 <<< 8)

/-- Bits 15..8 of a 16-bit value. -/
def hiByte (w : BitVec 16) : Byte := w.extractLsb' 8 8

/-- Bits 7..0 of a 16-bit value. -/
def loByte (w : BitVec 16) : Byte := w.extractLsb' 0 8

/-! ## Header checksum (R150 to R152) -/

/-- One turn of the repeat loop of R150. -/
def crc8Bit (c : Byte) : Byte :=
  if c.getLsbD 0 then (c >>> 1) ^^^ crc8Poly else c >>> 1

/-- `crc8_step(d, c)` of R150. -/
def crc8Step (d c : Byte) : Byte :=
  crc8Bit (crc8Bit (crc8Bit (crc8Bit (crc8Bit (crc8Bit (crc8Bit (crc8Bit (c ^^^ d))))))))

/-- `crc8_step` over octets in wire order, from a starting register. -/
def crc8Run (c : Byte) (bs : Octets) : Byte :=
  bs.foldl (fun r d => crc8Step d r) c

/-- The five octets the header checksum covers, in wire order (R150, decision D7). -/
def headerOctets (type dest src : Byte) (len : BitVec 16) : Octets :=
  [type, dest, src, hiByte len, loByte len]

/-- `HeaderCRC(type, dest, src, lhi, llo)` of R150, the length given as one value. -/
def headerCRC (type dest src : Byte) (len : BitVec 16) : Byte :=
  ~~~ (crc8Run crc8Init (headerOctets type dest src len))

/-- The closed form of `crc8_step` that R151 gives. -/
def crc8Closed (d c : Byte) : Byte :=
  let x : BitVec 16 := (c ^^^ d).setWidth 16
  let y := x ^^^ (x <<< 1) ^^^ (x <<< 2) ^^^ (x <<< 3) ^^^ (x <<< 4) ^^^ (x <<< 5) ^^^ (x <<< 6) ^^^ (x <<< 7)
  ((y &&& 0xFE) ^^^ ((y >>> 8) &&& 1)).setWidth 8

/-! ## Payload checksum (R155 to R157) -/

/-- One turn of the repeat loop of R155. -/
def crc16Bit (c : BitVec 16) : BitVec 16 :=
  if c.getLsbD 0 then (c >>> 1) ^^^ crc16Poly else c >>> 1

/-- `crc16_step(d, c)` of R155. -/
def crc16Step (d : Byte) (c : BitVec 16) : BitVec 16 :=
  crc16Bit (crc16Bit (crc16Bit (crc16Bit (crc16Bit (crc16Bit (crc16Bit (crc16Bit (c ^^^ d.setWidth 16))))))))

/-- `crc16_step` over octets in wire order, from a starting register. -/
def crc16Run (c : BitVec 16) (bs : Octets) : BitVec 16 :=
  bs.foldl (fun r d => crc16Step d r) c

/-- `PayloadCRC(p)` of R155. -/
def payloadCRC (p : Octets) : BitVec 16 :=
  ~~~ (crc16Run crc16Init p)

/-- The closed form of `crc16_step` that R156 gives. -/
def crc16Closed (d : Byte) (c : BitVec 16) : BitVec 16 :=
  let l : BitVec 16 := (c &&& 0xFF) ^^^ d.setWidth 16
  (c >>> 8) ^^^ (l <<< 8) ^^^ (l <<< 3) ^^^ (l <<< 12) ^^^ (l >>> 4) ^^^ (l &&& 0x0F) ^^^ ((l &&& 0x0F) <<< 7)

/-! ## Frame types -/

/-- The type a tag stands for (R144 to R146): every octet is some type, none is illegal (R175). -/
def FrameType.ofTag (tag : Byte) : FrameType :=
  if tag = tagToken then .token
  else if tag = tagPfm then .pfm
  else if tag = tagRpfm then .rpfm
  else if tag = tagTestRequest then .testRequest
  else if tag = tagTestResponse then .testResponse
  else if tag = tagDer then .der
  else if tag = tagDner then .dner
  else if tag < vendorBase then .unrecognized tag
  else .vendor tag

/-- The tag of a type (R144; an unassigned or vendor tag is the one kept). -/
def FrameType.tag : FrameType → Byte
  | .token => tagToken
  | .pfm => tagPfm
  | .rpfm => tagRpfm
  | .testRequest => tagTestRequest
  | .testResponse => tagTestResponse
  | .der => tagDer
  | .dner => tagDner
  | .unrecognized t => t
  | .vendor t => t

/-- The instruction a completed frame is (R144 to R146). -/
def Instr.ofFrameType (ft : FrameType) (f : Received) : Instr :=
  match ft with
  | .token => .token f
  | .pfm => .pfm f
  | .rpfm => .rpfm f
  | .testRequest => .testRequest f
  | .testResponse => .testResponse f
  | .der => .der f
  | .dner => .dner f
  | .unrecognized t => .unrecognized t f
  | .vendor t => .vendor t f

/-- The instruction a completed frame is, from its tag octet. -/
def Instr.ofFrame (f : RxFrame) : Instr :=
  Instr.ofFrameType (FrameType.ofTag f.tag) f.body

/-! ## Decoding -/

/-- Why a decoder refuses a sequence of octets. -/
inductive DecodeError where
  /-- No octet at all. -/
  | emptyRecord
  /-- The event code lies outside 0..6 (R172). -/
  | notAnEvent (code : Byte)
  /-- Octets are missing. -/
  | truncated
  /-- Octets are left over. -/
  | trailingOctets
  /-- The `expects_reply` octet of an ENQUEUE record is neither 0 nor 1. -/
  | badFlag (octet : Byte)
  /-- The synchronization pattern is missing (R143). -/
  | noSync
  /-- The header checksum does not match (R152). -/
  | headerChecksum
deriving DecidableEq, Repr

/-- What a decoder answers. -/
inductive Decoded where
  | ok (i : Instr)
  | error (e : DecodeError)
deriving DecidableEq, Repr

/-- The instruction, where there is one. -/
def Decoded.toOption : Decoded → Option Instr
  | .ok i => some i
  | .error _ => none

/-- A 16-bit operand at the head of a record, most significant octet first (log entry 2). -/
def takeU16 : Octets → Option (BitVec 16 × Octets)
  | a :: b :: rest => some (a ++ b, rest)
  | _ => none

/-- A 32-bit operand at the head of a record, most significant octet first (log entry 2). -/
def takeU32 : Octets → Option (BitVec 32 × Octets)
  | a :: b :: c :: d :: rest => some (a ++ b ++ c ++ d, rest)
  | _ => none

/-- A time stamp at the head of a record, most significant octet first (log entry 2). -/
def takeTime : Octets → Option (Time × Octets)
  | a :: b :: c :: d :: e :: f :: g :: h :: rest => some (a ++ b ++ c ++ d ++ e ++ f ++ g ++ h, rest)
  | _ => none

/-- The reading a semantics octet names: 0 MAXIMUM, 1 MINIMUM, any other value neither (log entry 2). -/
def ReplyDelaySemantics.ofOctet (b : Byte) : ReplyDelaySemantics :=
  if b = 0 then .maximum else if b = 1 then .minimum else .invalid b

/-- The configuration record of R10 in the order of its table, and what follows it (log entry 2). -/
def takeCfg (bs : Octets) : Option (Cfg × Octets) :=
  match bs with
  | station :: nmax :: r0 =>
    (takeU16 r0).bind fun (info, r1) =>
    (takeU16 r1).bind fun (npoll, r2) =>
    (takeU32 r2).bind fun (rate, r3) =>
    (takeU32 r3).bind fun (replyTimeout, r4) =>
    (takeU32 r4).bind fun (replyDelay, r5) =>
    (takeU32 r5).bind fun (usage, r6) =>
    (takeU32 r6).bind fun (noToken, r7) =>
    (takeU32 r7).bind fun (poll, r8) =>
    (takeU16 r8).bind fun (abortBits, r9) =>
    (takeU16 r9).bind fun (turnBits, r10) =>
    match r10 with
    | sem :: rest =>
      some ({ thisStation := station, nmaxMaster := nmax, nmaxInfoFrames := info, npoll := npoll,
              bitRate := rate, tReplyTimeout := replyTimeout, tReplyDelay := replyDelay,
              tUsageTimeout := usage, tNoToken := noToken, tPollTimeout := poll,
              nFrameAbortBits := abortBits, nTurnaroundBits := turnBits,
              replyDelaySemantics := ReplyDelaySemantics.ofOctet sem }, rest)
    | [] => none
  | _ => none

/-- An instruction whose record must end where its operands end. -/
def endOfRecord (i : Instr) : Octets → Decoded
  | [] => .ok i
  | _ :: _ => .error .trailingOctets

/-- The operands of a RESET record after its time stamp. -/
def decodeReset (t : Time) (rest : Octets) : Decoded :=
  match takeCfg rest with
  | some (cfg, rest') => endOfRecord (.reset t cfg) rest'
  | none => .error .truncated

/-- The operands of an OCTET record after its time stamp. -/
def decodeOctet (t : Time) (rest : Octets) : Decoded :=
  match rest with
  | b :: rest' => endOfRecord (.octet t b) rest'
  | [] => .error .truncated

/-- The operands of an ENQUEUE record after its time stamp: destination, flag octet, and the payload to the
record's end. -/
def decodeEnqueue (t : Time) (rest : Octets) : Decoded :=
  match rest with
  | dest :: flag :: payload =>
    if flag = 0 then .ok (.enqueue t payload dest false)
    else if flag = 1 then .ok (.enqueue t payload dest true)
    else .error (.badFlag flag)
  | _ => .error .truncated

/-- The operands of the event with code `code`, after the time stamp (R172). -/
def decodeOperands (code : Byte) (t : Time) (rest : Octets) : Decoded :=
  if code = codeReset then decodeReset t rest
  else if code = codeTick then endOfRecord (.tick t) rest
  else if code = codeOctet then decodeOctet t rest
  else if code = codeEnqueue then decodeEnqueue t rest
  else if code = codeDequeue then endOfRecord (.dequeue t) rest
  else if code = codeAnswer then .ok (.answer t rest)
  else if code = codeNoAnswer then endOfRecord (.noAnswer t) rest
  else .error (.notAnEvent code)

/-- The event a port's record stands for: the event code of R172, the time stamp, the operands (log entry 2).
A code outside 0..6 is refused by name. -/
def decodeEvent (record : Octets) : Decoded :=
  match record with
  | [] => .error .emptyRecord
  | code :: rest =>
    if code ≤ codeNoAnswer then
      match takeTime rest with
      | some (t, operands) => decodeOperands code t operands
      | none => .error .truncated
    else .error (.notAnEvent code)

/-- The frame whose header and following octets are given, for a block that keeps payloads of at most
`maxPayload` octets (R142, R157, R199): the whole sequence must be one frame. -/
def decodeBody (maxPayload : Nat) (tag dest src : Byte) (len : BitVec 16) (rest : Octets) : Decoded :=
  if len = 0 then
    endOfRecord (Instr.ofFrame { tag := tag, body := { dest := dest, src := src, len := len, payload := [], payloadOk := true } }) rest
  else
    match rest.drop len.toNat with
    | [lo, hi] =>
      let payload := rest.take len.toNat
      let ok := decide (len.toNat ≤ maxPayload) && decide (joinLE16 lo hi = payloadCRC payload)
      .ok (Instr.ofFrame { tag := tag, body :=
        { dest := dest, src := src, len := len, payload := if ok then payload else [], payloadOk := ok } })
    | _ :: _ :: _ :: _ => .error .trailingOctets
    | _ => .error .truncated

/-- The frame instruction a whole wire image stands for (R140, R152, R157, R177). -/
def decodeFrame (maxPayload : Nat) (wire : Octets) : Decoded :=
  match wire with
  | s1 :: s2 :: tag :: dest :: src :: lhi :: llo :: hcrc :: rest =>
    if s1 = sync1 ∧ s2 = sync2 then
      if hcrc = headerCRC tag dest src (joinBE16 lhi llo) then
        decodeBody maxPayload tag dest src (joinBE16 lhi llo) rest
      else .error .headerChecksum
    else .error .noSync
  | _ => .error .truncated

/-- The instruction a sequence of octets stands for: a wire image begins with the first synchronization
octet, which is no event code, and anything else is an event record. -/
def decode (maxPayload : Nat) (octets : Octets) : Decoded :=
  match octets with
  | [] => .error .emptyRecord
  | b :: _ => if b = sync1 then decodeFrame maxPayload octets else decodeEvent octets

/-! ## Encoding -/

/-- `Encode(FRAME(type, dest, src, p))` of R160. -/
def encodeFrame (type dest src : Byte) (p : Octets) : Octets :=
  let n := BitVec.ofNat 16 p.length
  let out := [sync1, sync2] ++ headerOctets type dest src n ++ [headerCRC type dest src n]
  if p.length = 0 then out
  else out ++ p ++ [loByte (payloadCRC p), hiByte (payloadCRC p)]

/-- A wire image of a frame whose payload failed (R157, R199): the length its header states, that many zero
octets, and the complement of their checksum. Many images decode to the same failed frame; this is one. -/
def encodeFailed (type dest src : Byte) (len : BitVec 16) : Octets :=
  let p : Octets := List.replicate len.toNat 0
  let c := ~~~ (payloadCRC p)
  [sync1, sync2] ++ headerOctets type dest src len ++ [headerCRC type dest src len] ++ p ++ [loByte c, hiByte c]

/-- A wire image of a received frame. -/
def encodeReceived (type : Byte) (f : Received) : Octets :=
  if f.payloadOk then encodeFrame type f.dest f.src f.payload
  else encodeFailed type f.dest f.src f.len

/-- A 16-bit operand, most significant octet first. -/
def putU16 (v : BitVec 16) : Octets := [v.extractLsb' 8 8, v.extractLsb' 0 8]

/-- A 32-bit operand, most significant octet first. -/
def putU32 (v : BitVec 32) : Octets :=
  [v.extractLsb' 24 8, v.extractLsb' 16 8, v.extractLsb' 8 8, v.extractLsb' 0 8]

/-- A time stamp, most significant octet first. -/
def putTime (t : Time) : Octets :=
  [t.extractLsb' 56 8, t.extractLsb' 48 8, t.extractLsb' 40 8, t.extractLsb' 32 8,
   t.extractLsb' 24 8, t.extractLsb' 16 8, t.extractLsb' 8 8, t.extractLsb' 0 8]

/-- The octet of a semantics value. -/
def ReplyDelaySemantics.octet : ReplyDelaySemantics → Byte
  | .maximum => 0
  | .minimum => 1
  | .invalid c => c

/-- The octets of a configuration record, in the order of R10's table. -/
def putCfg (c : Cfg) : Octets :=
  [c.thisStation, c.nmaxMaster] ++ putU16 c.nmaxInfoFrames ++ putU16 c.npoll ++ putU32 c.bitRate ++
  putU32 c.tReplyTimeout ++ putU32 c.tReplyDelay ++ putU32 c.tUsageTimeout ++ putU32 c.tNoToken ++
  putU32 c.tPollTimeout ++ putU16 c.nFrameAbortBits ++ putU16 c.nTurnaroundBits ++ [c.replyDelaySemantics.octet]

/-- The octets of a well-formed instruction: a wire image of a frame, or the record of an event. -/
def encode : Instr → Octets
  | .token f => encodeReceived tagToken f
  | .pfm f => encodeReceived tagPfm f
  | .rpfm f => encodeReceived tagRpfm f
  | .testRequest f => encodeReceived tagTestRequest f
  | .testResponse f => encodeReceived tagTestResponse f
  | .der f => encodeReceived tagDer f
  | .dner f => encodeReceived tagDner f
  | .unrecognized tag f => encodeReceived tag f
  | .vendor tag f => encodeReceived tag f
  | .reset t cfg => codeReset :: (putTime t ++ putCfg cfg)
  | .tick t => codeTick :: putTime t
  | .octet t b => codeOctet :: (putTime t ++ [b])
  | .enqueue t payload dest er => codeEnqueue :: (putTime t ++ [dest, if er then 1 else 0] ++ payload)
  | .dequeue t => codeDequeue :: putTime t
  | .answer t payload => codeAnswer :: (putTime t ++ payload)
  | .noAnswer t => codeNoAnswer :: putTime t

/-! ## Pseudo-events (R171) -/

/-- One OCTET per octet, the first at `t` and each next one `gap` later. -/
def octetEvents (t gap : Time) : Octets → List Instr
  | [] => []
  | b :: bs => .octet t b :: octetEvents (t + gap) gap bs

/-- The octets of a frame that carries deliberately wrong checksums, where `hcrc` or `dcrc` gives one; the
payload checksum goes low octet first (R171). -/
def encodeFrameWith (type dest src : Byte) (p : Octets) (hcrc : Option Byte) (dcrc : Option (BitVec 16)) : Octets :=
  let n := BitVec.ofNat 16 p.length
  let out := [sync1, sync2] ++ headerOctets type dest src n ++ [hcrc.getD (headerCRC type dest src n)]
  let crc := dcrc.getD (payloadCRC p)
  if p.length = 0 then out else out ++ p ++ [loByte crc, hiByte crc]

/-- `@t RXFRAME gap=g FRAME(type, dest, src, p)` of R171, with the checksums it replaces if any: the OCTET events
it expands to. -/
def rxFrameEvents (t gap : Time) (type dest src : Byte) (p : Octets) (hcrc : Option Byte)
    (dcrc : Option (BitVec 16)) : List Instr :=
  octetEvents t gap (encodeFrameWith type dest src p hcrc dcrc)

/-- `n` TICK events, the first at `t` and each next one `every` later. -/
def tickSeries (t every : Time) : Nat → List Instr
  | 0 => []
  | n + 1 => .tick t :: tickSeries (t + every) every n

/-- `@t1..t2 TICKS every=d` of R171: TICK at t1, t1 + d, ... while the time is at most t2.
R171 sets no lower bound on d, and with d = 0 its words give a series without an end; there the model gives the one
TICK at t1 (DESIGN CHOICE, log entry 19). -/
def tickEvents (t1 t2 every : Time) : List Instr :=
  if t2 < t1 then [] else tickSeries t1 every ((t2.toNat - t1.toNat) / every.toNat + 1)

/-! ## Words of the opcode table -/

/-- The number of octets a record of each event has when its payload is empty. -/
def eventLength (code : Byte) : Nat :=
  if code = codeReset then 44 else if code = codeOctet then 10 else if code = codeEnqueue then 11 else 9

/-- `n` octets of a word, bits 7..0 first. -/
def wordOctets (w : Nat) : Nat → Octets
  | 0 => []
  | n + 1 => BitVec.ofNat 8 w :: wordOctets (w / 256) n

/-- The octets an opcode-table word is laid out as (log entry 3). Its low octet is an event code or a frame
type: 0..6 are read as event codes, the higher octets of the word following as operands; any other octet is
no event code (R172) and is the frame type of an empty frame from station 0 to station 0. -/
def tableWordOctets (nbits w : Nat) : Octets :=
  let w := w % 2 ^ nbits
  let low := BitVec.ofNat 8 w
  if low ≤ codeNoAnswer then wordOctets w (eventLength low) else encodeFrame low 0 0 []

/-- The instruction the decoder reads from an opcode-table word. -/
def decodeTableWord (nbits w : Nat) : Option Instr :=
  (decode 0 (tableWordOctets nbits w)).toOption

end Sys2Proof
end

