-- ==== Sys2Proof/Machine/State.lean ====
section
/-! DEFINITION. The state of the link engine: every register of 10_state.md, in that file's sections, and then
the model's own fields (the build parameters, and the ports' pending and produced data). Also the result
codes, the reasons a step can stop, and the state after reset. -/
namespace Sys2Proof.Machine

/-- `STATE`: the nine states, in the order of R45's table, so that no tenth value can be represented. -/
inductive RingState where
  /-- INITIALIZE, 0. -/
  | init
  /-- IDLE, 1. -/
  | idle
  /-- USE_TOKEN, 2. -/
  | useToken
  /-- WAIT_FOR_REPLY, 3. -/
  | waitForReply
  /-- DONE_WITH_TOKEN, 4. -/
  | doneWithToken
  /-- PASS_TOKEN, 5. -/
  | passToken
  /-- NO_TOKEN, 6; no rule enters it (R255). -/
  | noToken
  /-- POLL_FOR_MASTER, 7. -/
  | pollForMaster
  /-- ANSWER_DATA_REQUEST, 8. -/
  | answerDataRequest
deriving DecidableEq, Repr

/-- `IDLE_RESP_KIND`: the response IDLE owes (R55); its value 3 is never held and has no constructor. -/
inductive IdleRespKind where
  | none
  | rpfm
  | testResponse
deriving DecidableEq, Repr

/-- `RX_STATE`: the receive scanner's state (R59). -/
inductive RxState where
  | hunt
  | preamble
  | header
  | data
deriving DecidableEq, Repr

/-- The nine diagnostic counters, by name (R70). -/
inductive Counter where
  | hdrCrc
  | payloadCrc
  | oversize
  | frameAbort
  | anomaly
  | inqOverflow
  | outqReject
  | framesRx
  | framesTx
deriving DecidableEq, Repr

/-- The five named timers (R58, R341). -/
inductive Timer where
  | noToken
  | reply
  | replyDelay
  | usage
  | poll
deriving DecidableEq, Repr

/-- The ring registers, `RingState` of the document (10_state.md section 3). -/
structure Ring where
  /-- `STATE` (R45). -/
  state : RingState
  /-- `TOKEN_COUNT` (R47). -/
  tokenCount : BitVec 8
  /-- `FRAME_COUNT` (R48). -/
  frameCount : BitVec 8
  /-- `NEXT_STATION` (R49). -/
  nextStation : Addr
  /-- `POLL_STATION` (R50). -/
  pollStation : Addr
  /-- `SOLE_MASTER` (R51). -/
  soleMaster : Bool
  /-- `PFM_SENT` (R52). -/
  pfmSent : Bool
  /-- `REPLY_TO` (R53). -/
  replyTo : Addr
  /-- `REPLY_VALID` (R54). -/
  replyValid : Bool
  /-- `REPLY_PAYLOAD` (R54). -/
  replyPayload : Octets
  /-- `IDLE_RESP_KIND` (R55). -/
  idleRespKind : IdleRespKind
  /-- `IDLE_RESP_DEST` (R55). -/
  idleRespDest : Addr
  /-- `IDLE_RESP_PAYLOAD` (R55). -/
  idleRespPayload : Octets
deriving DecidableEq, Repr

/-- The timing registers (10_state.md section 4). -/
structure Timing where
  /-- `NOW` (R56). -/
  now : Time
  /-- `RX_LAST` (R57). -/
  rxLast : Time
  /-- `TS_NO_TOKEN` (R58). -/
  tsNoToken : Time
  /-- `TS_REPLY` (R58). -/
  tsReply : Time
  /-- `TS_REPLY_DELAY` (R58). -/
  tsReplyDelay : Time
  /-- `TS_USAGE` (R58). -/
  tsUsage : Time
  /-- `TS_POLL` (R58). -/
  tsPoll : Time
deriving DecidableEq, Repr

/-- `RX_HDR[0..5]` (R61), by the meaning of each octet. -/
structure RxHeader where
  /-- `RX_HDR[0]`, the frame type. -/
  type : Byte
  /-- `RX_HDR[1]`, the destination. -/
  dest : Byte
  /-- `RX_HDR[2]`, the source. -/
  src : Byte
  /-- `RX_HDR[3]`, the length's high octet. -/
  lenHi : Byte
  /-- `RX_HDR[4]`, the length's low octet. -/
  lenLo : Byte
  /-- `RX_HDR[5]`, the header checksum. -/
  crc : Byte
deriving DecidableEq, Repr

/-- The receiver registers (10_state.md section 5). -/
structure Rx where
  /-- `RX_STATE` (R59). -/
  state : RxState
  /-- `RX_INDEX` (R60). -/
  index : BitVec 32
  /-- `RX_HDR` (R61). -/
  hdr : RxHeader
  /-- `RX_HCRC` (R62). -/
  hcrc : BitVec 8
  /-- `RX_LEN` (R63). -/
  len : BitVec 16
  /-- `RX_DCRC` (R64). -/
  dcrc : BitVec 16
  /-- `RX_KEEP` (R65). -/
  keep : Bool
  /-- `RX_CRC_LO` (R66). -/
  crcLo : Byte
  /-- `RX_CRC_HI` (R66). -/
  crcHi : Byte
  /-- `RX_BUF` (R67), as the sequence received so far. -/
  buf : Octets
deriving DecidableEq, Repr

/-- An entry of `OUTQ` (R68). -/
structure OutEntry where
  payload : Octets
  dest : Addr
  expectsReply : Bool
deriving DecidableEq, Repr

/-- An entry of `INQ` (R69). -/
structure InEntry where
  payload : Octets
  src : Addr
deriving DecidableEq, Repr

/-- The diagnostic counters (R70), 32 bits each. -/
structure Counters where
  /-- `CNT_HDR_CRC`. -/
  hdrCrc : BitVec 32
  /-- `CNT_PAYLOAD_CRC`. -/
  payloadCrc : BitVec 32
  /-- `CNT_OVERSIZE`. -/
  oversize : BitVec 32
  /-- `CNT_FRAME_ABORT`. -/
  frameAbort : BitVec 32
  /-- `CNT_ANOMALY`. -/
  anomaly : BitVec 32
  /-- `CNT_INQ_OVERFLOW`. -/
  inqOverflow : BitVec 32
  /-- `CNT_OUTQ_REJECT`. -/
  outqReject : BitVec 32
  /-- `CNT_FRAMES_RX`. -/
  framesRx : BitVec 32
  /-- `CNT_FRAMES_TX`. -/
  framesTx : BitVec 32
deriving DecidableEq, Repr

/-- The result codes of R403. -/
inductive Result where
  /-- 0: accepted and processed. -/
  | ok
  /-- 1: `CFG_VALID = 0`; nothing changed (R241). -/
  | notConfigured
  /-- 2: the time stamp is below `NOW`; nothing changed (R242). -/
  | timeRegression
  /-- 3: RESET with a configuration outside its ranges; the block is unconfigured (R451). -/
  | configInvalid
  /-- 4: `OUTQ` at capacity; nothing queued (R370). -/
  | full
  /-- 5: a payload longer than `P_MAX_PAYLOAD`; nothing changed (R370, R385). -/
  | tooLong
  /-- 6: `INQ` empty (R380). -/
  | empty
  /-- 7: no reply is expected (R385, R387). -/
  | notExpected
deriving DecidableEq, Repr

/-- The six input ports of R80. -/
inductive Port where
  | lineRx
  | hostOut
  | hostIn
  | hostAnswer
  | clock
  | control
deriving DecidableEq, Repr

/-- What a step returns to the port that delivered its event (R403): the result code and, for a DEQUEUE that
found an entry, the entry. -/
structure Response where
  port : Port
  result : Result
  entry : Option InEntry
deriving DecidableEq, Repr

/-- One emission on LINE_TX: the whole octet sequence of a frame and the time of its step (R82). -/
structure Transmission where
  time : Time
  octets : Octets
deriving DecidableEq, Repr

/-- The state: the registers of 10_state.md (R40), and the model's own fields `build`, `inbox`, `lineTx` and
`responses` (log entries 1 and 4). -/
structure State where
  /-- The build parameters of this instance (R11). -/
  build : BuildParams
  /-- `CFG` (R42). -/
  cfg : Cfg
  /-- `CFG_VALID` (R43). -/
  cfgValid : Bool
  /-- `T_FRAME_ABORT` (R44). -/
  tFrameAbort : Time
  /-- `T_TURNAROUND` (R44). -/
  tTurnaround : Time
  /-- The ring registers (R45 to R55). -/
  ring : Ring
  /-- The timing registers (R56 to R58). -/
  timing : Timing
  /-- The receiver registers (R59 to R67). -/
  rx : Rx
  /-- `OUTQ` (R68), oldest entry first. -/
  outq : List OutEntry
  /-- `INQ` (R69), oldest entry first. -/
  inq : List InEntry
  /-- The diagnostic counters (R70). -/
  cnt : Counters
  /-- The event records the ports still have to deliver, next one first (the model's own). -/
  inbox : List Octets
  /-- What LINE_TX has emitted, oldest first (the model's own). -/
  lineTx : List Transmission
  /-- What the ports have been returned, oldest first (the model's own). -/
  responses : List Response
deriving DecidableEq, Repr

/-- The reasons a step stops with a fault: none. "The block raises no exception and takes no trap" (R400), and
the values that R45, R55 and 93_implementation_defined.md I18 would fault on cannot be represented. -/
inductive Fault
deriving DecidableEq, Repr

/-- The reasons a step refuses. -/
inductive Refusal where
  /-- An instruction that has no meaning yet; raised by no arm of this model. Safe. -/
  | notModelled (mnemonic : String)
  /-- `step`, on a record whose code is no event's: "a port delivering one is refused by the model (no step)"
  (R172). Safe. -/
  | notAnEvent (code : Byte)
  /-- `step`, on a record that does not have the layout of its event's record (log entry 2). Safe: such a
  record is no event of the block. -/
  | malformedRecord (why : DecodeError)
deriving DecidableEq, Repr

/-- The power-on states (R41, R43, R453): `CFG_VALID` is 0 and every other register holds any value at all, which
nothing reads before a RESET (93_implementation_defined.md I12); nothing has been emitted and nothing returned yet.
A claim about a block from power-on is one about every state of which this holds (log entry 14). -/
abbrev State.atPowerOn (s : State) : Prop :=
  s.cfgValid = false ∧ s.lineTx = [] ∧ s.responses = []

/-- The machine right after a successful RESET (R450, R452) at time 0 with the default configuration of R10, as
station 0 (DESIGN CHOICE, log entry 6: the spec gives no default for `This_Station` and leaves the origin of
time open), for the default build parameters of R11. Nothing is pending and nothing has been produced. -/
def State.reset : State where
  build := BuildParams.default
  cfg := Cfg.default 0
  cfgValid := true
  tFrameAbort := 1563
  tTurnaround := 1042
  ring :=
    { state := .init, tokenCount := 50, frameCount := 0, nextStation := 0, pollStation := 0,
      soleMaster := false, pfmSent := false, replyTo := 0, replyValid := false, replyPayload := [],
      idleRespKind := .none, idleRespDest := 0, idleRespPayload := [] }
  timing := { now := 0, rxLast := 0, tsNoToken := 0, tsReply := 0, tsReplyDelay := 0, tsUsage := 0, tsPoll := 0 }
  rx :=
    { state := .hunt, index := 0,
      hdr := { type := 0, dest := 0, src := 0, lenHi := 0, lenLo := 0, crc := 0 },
      hcrc := crc8Init, len := 0, dcrc := crc16Init, keep := true, crcLo := 0, crcHi := 0, buf := [] }
  outq := []
  inq := []
  cnt :=
    { hdrCrc := 0, payloadCrc := 0, oversize := 0, frameAbort := 0, anomaly := 0, inqOverflow := 0,
      outqReject := 0, framesRx := 0, framesTx := 0 }
  inbox := []
  lineTx := []
  responses := []

end Sys2Proof.Machine
end

