-- ==== Sys2Proof/Machine/Operands.lean ====
section
/-! DEFINITION. Operand computations and encodings of register values: the address successor (R300), the
bit-time intervals (R352), the configuration check (R451), the register encodings of R45, R55, R59 and the
result codes of R403. -/
namespace Sys2Proof.Machine

/-- `succ(a) = (a + 1) mod (CFG.Nmax_master + 1)` (R300). -/
def succ (cfg : Cfg) (a : Addr) : Addr :=
  BitVec.ofNat 8 ((a.toNat + 1) % (cfg.nmaxMaster.toNat + 1))

/-- A number of bit times in microseconds, rounded up: `(n * 1000000 + bit_rate - 1) div bit_rate` (R352). -/
def bitTimes (n : BitVec 16) (rate : BitVec 32) : Time :=
  BitVec.ofNat 64 ((n.toNat * 1000000 + rate.toNat - 1) / rate.toNat)

/-- `valid(cfg)` of R451, one clause a line of the rule. -/
def validCfg (cfg : Cfg) : Bool :=
  decide (cfg.nmaxMaster ≤ 127) &&
  decide (cfg.thisStation ≤ cfg.nmaxMaster) &&
  (decide (1 ≤ cfg.nmaxInfoFrames) && decide (cfg.nmaxInfoFrames ≤ 255)) &&
  (decide (1 ≤ cfg.npoll) && decide (cfg.npoll ≤ 255)) &&
  decide (1 ≤ cfg.bitRate) &&
  (decide (1 ≤ cfg.tReplyTimeout) && decide (1 ≤ cfg.tReplyDelay) && decide (1 ≤ cfg.tUsageTimeout) &&
    decide (1 ≤ cfg.tNoToken) && decide (1 ≤ cfg.tPollTimeout)) &&
  (decide (1 ≤ cfg.nFrameAbortBits) && decide (1 ≤ cfg.nTurnaroundBits)) &&
  (decide (cfg.replyDelaySemantics = .maximum) || decide (cfg.replyDelaySemantics = .minimum))

/-- The value of `STATE` that stands for a state (R45). -/
def RingState.code : RingState → BitVec 4
  | .init => 0
  | .idle => 1
  | .useToken => 2
  | .waitForReply => 3
  | .doneWithToken => 4
  | .passToken => 5
  | .noToken => 6
  | .pollForMaster => 7
  | .answerDataRequest => 8

/-- The value of `IDLE_RESP_KIND` (R55). -/
def IdleRespKind.code : IdleRespKind → BitVec 2
  | .none => 0
  | .rpfm => 1
  | .testResponse => 2

/-- The value of `RX_STATE` (R59). -/
def RxState.code : RxState → BitVec 2
  | .hunt => 0
  | .preamble => 1
  | .header => 2
  | .data => 3

/-- The number of a result code (R403). -/
def Result.code : Result → Nat
  | .ok => 0
  | .notConfigured => 1
  | .timeRegression => 2
  | .configInvalid => 3
  | .full => 4
  | .tooLong => 5
  | .empty => 6
  | .notExpected => 7

/-- `RX_HDR[i] <- b` (R197); only indices 0..5 exist. -/
def RxHeader.set (h : RxHeader) (i : Nat) (b : Byte) : RxHeader :=
  match i with
  | 0 => { h with type := b }
  | 1 => { h with dest := b }
  | 2 => { h with src := b }
  | 3 => { h with lenHi := b }
  | 4 => { h with lenLo := b }
  | 5 => { h with crc := b }
  | _ => h

end Sys2Proof.Machine
end

