-- ==== Sys2Proof/Machine/Flags.lean ====
section
/-! DEFINITION. The conditions the rules test. The block has no condition codes (R72); these are the guards
named in 00_scope.md R17 and in the step rules. -/
namespace Sys2Proof.Machine

/-- The start register of a timer (R58). -/
def State.start (s : State) : Timer → Time
  | .noToken => s.timing.tsNoToken
  | .reply => s.timing.tsReply
  | .replyDelay => s.timing.tsReplyDelay
  | .usage => s.timing.tsUsage
  | .poll => s.timing.tsPoll

/-- `expired(TS_X, D)`: `NOW - TS_X >= D` (R342). -/
def expired (s : State) (tm : Timer) (d : BitVec 32) : Bool :=
  decide (d.setWidth 64 ≤ s.timing.now - s.start tm)

/-- `turnaround_ok`: `NOW - RX_LAST >= T_TURNAROUND` (R350). -/
def turnaroundOk (s : State) : Bool :=
  decide (s.tTurnaround ≤ s.timing.now - s.timing.rxLast)

/-- The silence of the frame-abort check: `NOW - RX_LAST >= T_FRAME_ABORT` (R193, R351). -/
def abortSilence (s : State) : Bool :=
  decide (s.tFrameAbort ≤ s.timing.now - s.timing.rxLast)

/-- The states in which a received octet re-arms the no-token timer (R195). -/
def listening : RingState → Bool
  | .init => true
  | .idle => true
  | .noToken => true
  | .useToken => false
  | .waitForReply => false
  | .doneWithToken => false
  | .passToken => false
  | .pollForMaster => false
  | .answerDataRequest => false

/-- `good(f)`: a frame with a payload that was received intact (R290). -/
def good (f : Received) : Bool :=
  decide (f.len ≠ 0) && f.payloadOk

/-- ANSWER and NO_ANSWER are expected only while a request is being answered and no reply is held (R385,
R387). -/
def answerExpected (s : State) : Bool :=
  decide (s.ring.state = .answerDataRequest) && !s.ring.replyValid

end Sys2Proof.Machine
end

