-- ==== Sys2Proof/Machine/Ops.lean ====
section
/-! DEFINITION. The primitives of 00_scope.md R17: counters (R410), timers (R343), the FIFO operations
(R103), delivery (R375) and transmission (R220), and the return of a result to a port (R403).
The block takes no exception and returns from none (R400, R426), and it has no addressed memory (R100), so no
operation of either kind stands here: an error ends in a discard, a count, a transition or a result code. -/
namespace Sys2Proof.Machine

/-- One counter's increment, modulo 2^32 (R410). -/
def Counters.bump (c : Counters) : Counter → Counters
  | .hdrCrc => { c with hdrCrc := c.hdrCrc + 1 }
  | .payloadCrc => { c with payloadCrc := c.payloadCrc + 1 }
  | .oversize => { c with oversize := c.oversize + 1 }
  | .frameAbort => { c with frameAbort := c.frameAbort + 1 }
  | .anomaly => { c with anomaly := c.anomaly + 1 }
  | .inqOverflow => { c with inqOverflow := c.inqOverflow + 1 }
  | .outqReject => { c with outqReject := c.outqReject + 1 }
  | .framesRx => { c with framesRx := c.framesRx + 1 }
  | .framesTx => { c with framesTx := c.framesTx + 1 }

/-- `count(CNT_X)` (R410). -/
def count (c : Counter) (s : State) : State :=
  { s with cnt := s.cnt.bump c }

/-- A start register's write. -/
def Timing.set (t : Timing) (tm : Timer) (v : Time) : Timing :=
  match tm with
  | .noToken => { t with tsNoToken := v }
  | .reply => { t with tsReply := v }
  | .replyDelay => { t with tsReplyDelay := v }
  | .usage => { t with tsUsage := v }
  | .poll => { t with tsPoll := v }

/-- `arm(TS_X)`: `TS_X <- NOW` (R343). -/
def arm (tm : Timer) (s : State) : State :=
  { s with timing := s.timing.set tm s.timing.now }

/-- `STATE <- st`, the tag alone (R255). -/
def setRingState (st : RingState) (s : State) : State :=
  { s with ring := { s.ring with state := st } }

/-- `QPush(Q, e)`: appends at the tail (R103); every caller tests the length first. -/
def qPush {α : Type} (q : List α) (e : α) : List α := q ++ [e]

/-- `QPop(Q)`: the head entry and the queue without it (R103); `none` on an empty queue, on which no rule
calls it. -/
def qPop {α : Type} : List α → Option (α × List α)
  | [] => none
  | e :: q => some (e, q)

/-- `QHead(Q)`: the head entry, the queue unchanged (R103); no rule calls it. -/
def qHead {α : Type} (q : List α) : Option α := q.head?

/-- `Deliver(p, src)`: the inbound queue takes the entry, or drops it and counts when full (R375). -/
def deliver (payload : Octets) (src : Addr) (s : State) : State :=
  if s.build.inqCap ≤ s.inq.length then count .inqOverflow s
  else { s with inq := qPush s.inq { payload := payload, src := src } }

/-- `DeliverIfGood(f)` (R291). -/
def deliverIfGood (f : Received) (s : State) : State :=
  if good f then deliver f.payload f.src s else s

/-- The emission of a frame on LINE_TX at `NOW` (R82, R220). -/
def emit (octets : Octets) (s : State) : State :=
  { s with lineTx := s.lineTx ++ [{ time := s.timing.now, octets := octets }] }

/-- `Tx(FRAME(type, dest, CFG.This_Station, p))`: the emission first, then its count (R220, R247). Every frame
the block originates has its own address as source (R161). -/
def tx (type dest : Byte) (p : Octets) (s : State) : State :=
  count .framesTx (emit (encodeFrame type dest s.cfg.thisStation p) s)

/-- A result returned to the port that delivered the event (R403). -/
def respond (port : Port) (r : Result) (entry : Option InEntry) (s : State) : State :=
  { s with responses := s.responses ++ [{ port := port, result := r, entry := entry }] }

end Sys2Proof.Machine
end

