-- ==== Sys2Proof/Machine/Receiver.lean ====
section
/-! DEFINITION. The receive side of the Frame Codec (40_frame_codec.md): the four-state scanner and the
frame-abort check. -/
namespace Sys2Proof.Machine

/-- What consuming one octet does: the receiver's registers after it, the counter it counts if any, and the
frame it completes if any (R190, R192). -/
structure ScanResult where
  rx : Rx
  counted : Option Counter
  frame : Option RxFrame
deriving DecidableEq, Repr

/-- A scan that neither counts nor completes a frame. -/
def ScanResult.quiet (rx : Rx) : ScanResult := { rx := rx, counted := none, frame := none }

/-- `Scan(b)` in HUNT (R196). -/
def scanHunt (rx : Rx) (b : Byte) : ScanResult :=
  .quiet (if b = sync1 then { rx with state := .preamble } else rx)

/-- `Scan(b)` in PREAMBLE (R196). -/
def scanPreamble (rx : Rx) (b : Byte) : ScanResult :=
  .quiet (
    if b = sync2 then { rx with state := .header, index := 0, hcrc := crc8Init }
    else if b = sync1 then rx
    else { rx with state := .hunt })

/-- The length field of the header collected so far (R110, R197). -/
def Rx.headerLen (rx : Rx) : BitVec 16 := joinBE16 rx.hdr.lenHi rx.hdr.lenLo

/-- A header that passed its check: a frame of length 0 is complete, a longer one goes on in DATA (R197). -/
def scanHeaderGood (maxPayload : Nat) (rx : Rx) : ScanResult :=
  let rx := { rx with len := rx.headerLen }
  if rx.len = 0 then
    { rx := { rx with state := .hunt }, counted := none,
      frame := some { tag := rx.hdr.type, body :=
        { dest := rx.hdr.dest, src := rx.hdr.src, len := 0, payload := [], payloadOk := true } } }
  else
    .quiet { rx with
      state := .data, index := 0, dcrc := crc16Init, keep := decide (rx.len.toNat ≤ maxPayload), buf := [] }

/-- `Scan(b)` in HEADER (R197). -/
def scanHeader (maxPayload : Nat) (rx : Rx) (b : Byte) : ScanResult :=
  let rx := { rx with hdr := rx.hdr.set rx.index.toNat b }
  if rx.index < 5 then
    .quiet { rx with hcrc := crc8Step b rx.hcrc, index := rx.index + 1 }
  else if b = ~~~ rx.hcrc then scanHeaderGood maxPayload rx
  else { rx := { rx with state := .hunt }, counted := some .hdrCrc, frame := none }

/-- `Complete()`: the frame record of a frame with a payload (R199). -/
def complete (rx : Rx) : ScanResult :=
  let crcOk := decide (joinLE16 rx.crcLo rx.crcHi = ~~~ rx.dcrc)
  let payloadOk := rx.keep && crcOk
  { rx := rx,
    counted := if rx.keep then (if crcOk then none else some .payloadCrc) else some .oversize,
    frame := some { tag := rx.hdr.type, body :=
      { dest := rx.hdr.dest, src := rx.hdr.src, len := rx.len,
        payload := if payloadOk then rx.buf else [], payloadOk := payloadOk } } }

/-- `Scan(b)` in DATA (R198). -/
def scanData (rx : Rx) (b : Byte) : ScanResult :=
  let i := rx.index.toNat
  let rx := { rx with index := rx.index + 1 }
  if i < rx.len.toNat then
    .quiet { rx with buf := if rx.keep then rx.buf ++ [b] else rx.buf, dcrc := crc16Step b rx.dcrc }
  else if i = rx.len.toNat then .quiet { rx with crcLo := b }
  else complete { rx with crcHi := b, state := .hunt }

/-- `Scan(b)` (R194, R196 to R199), for a block that stores payloads of at most `maxPayload` octets. -/
def scan (maxPayload : Nat) (rx : Rx) (b : Byte) : ScanResult :=
  match rx.state with
  | .hunt => scanHunt rx b
  | .preamble => scanPreamble rx b
  | .header => scanHeader maxPayload rx b
  | .data => scanData rx b

/-- The counter a scan names, counted. -/
def countScan (c : Option Counter) (s : State) : State :=
  match c with
  | none => s
  | some c => count c s

/-- The scanner back in HUNT. -/
def rxToHunt (s : State) : State :=
  { s with rx := { s.rx with state := .hunt } }

/-- The effect of a frame abort on the ring: a reply timeout in WAIT_FOR_REPLY, nothing elsewhere (R193). -/
def abortReply (s : State) : State :=
  if s.ring.state = .waitForReply then setRingState .doneWithToken s else s

/-- The frame-abort check, phase 2 of every step (R193, R243). -/
def abortCheck (s : State) : State :=
  if abortSilence s then
    match s.rx.state with
    | .hunt => s
    | .preamble => rxToHunt s
    | .header => abortReply (count .frameAbort (rxToHunt s))
    | .data => abortReply (count .frameAbort (rxToHunt s))
  else s

end Sys2Proof.Machine
end

