-- ==== Sys2Proof/Machine/Ring.lean ====
section
/-! DEFINITION. The Token Ring State Machine's entry actions (41_ring_state_machine.md section 2) and the
evaluation rules of each state (section 3), in firing order: the first rule whose guard holds fires (R246). -/
namespace Sys2Proof.Machine

/-! ## Entry actions -/

/-- `enter_initialize` (R250). -/
def enterInitialize (s : State) : State :=
  arm .noToken (setRingState .init s)

/-- `enter_idle` (R251). -/
def enterIdle (s : State) : State :=
  let s := arm .noToken (setRingState .idle s)
  { s with ring := { s.ring with idleRespKind := .none } }

/-- `enter_use_token` (R252). -/
def enterUseToken (s : State) : State :=
  let s := arm .usage (setRingState .useToken s)
  { s with ring := { s.ring with frameCount := 0 } }

/-- `enter_wait_for_reply` (R253). -/
def enterWaitForReply (s : State) : State :=
  arm .reply (setRingState .waitForReply s)

/-- `enter_poll_for_master` (R254). -/
def enterPollForMaster (s : State) : State :=
  let s := arm .noToken (setRingState .pollForMaster s)
  { s with ring := { s.ring with pollStation := succ s.cfg s.cfg.thisStation, pfmSent := false } }

/-- The entry of NO_TOKEN that R255 gives a model that needs one; no rule uses it. -/
def enterNoToken (s : State) : State :=
  arm .noToken (setRingState .noToken s)

/-- `enter_answer(src)` (R256). -/
def enterAnswer (src : Addr) (s : State) : State :=
  let s := arm .replyDelay (setRingState .answerDataRequest s)
  { s with ring := { s.ring with replyTo := src, replyValid := false } }

/-- `promote` (R284). -/
def promote (s : State) : State :=
  enterUseToken { s with ring := { s.ring with soleMaster := true, nextStation := s.cfg.thisStation } }

/-! ## Evaluation rules -/

/-- INITIALIZE: z1 (R258). -/
def evalInitialize (s : State) : State :=
  if expired s .noToken s.cfg.tNoToken then enterIdle s else s

/-- The transmission of the response IDLE owes (R260, i1). -/
def sendIdleResponse (s : State) : State :=
  match s.ring.idleRespKind with
  | .none => s
  | .rpfm => tx tagRpfm s.ring.idleRespDest [] s
  | .testResponse => tx tagTestResponse s.ring.idleRespDest s.ring.idleRespPayload s

/-- `IDLE_RESP_KIND <- NONE`. -/
def clearIdleResponse (s : State) : State :=
  { s with ring := { s.ring with idleRespKind := .none } }

/-- IDLE: i1, i2, i3 (R260). -/
def evalIdle (s : State) : State :=
  if s.ring.idleRespKind ≠ .none then
    if turnaroundOk s then clearIdleResponse (sendIdleResponse s) else s
  else if expired s .noToken s.cfg.tNoToken then enterPollForMaster s
  else s

/-- `FRAME_COUNT <- FRAME_COUNT + 1` (R268). -/
def bumpFrameCount (s : State) : State :=
  { s with ring := { s.ring with frameCount := s.ring.frameCount + 1 } }

/-- The transmission of one outbound entry (R268): a request is waited for, unless it is a broadcast. -/
def sendEntry (e : OutEntry) (s : State) : State :=
  if e.expectsReply = true ∧ e.dest ≠ broadcast then
    enterWaitForReply (bumpFrameCount (tx tagDer e.dest e.payload s))
  else bumpFrameCount (tx tagDner e.dest e.payload s)

/-- USE_TOKEN: u1 to u5 (R264 to R268). -/
def evalUseToken (s : State) : State :=
  if expired s .usage s.cfg.tUsageTimeout then setRingState .doneWithToken s
  else if s.cfg.nmaxInfoFrames.toNat ≤ s.ring.frameCount.toNat then setRingState .doneWithToken s
  else match qPop s.outq with
    | none => setRingState .doneWithToken s
    | some (e, rest) => if turnaroundOk s then sendEntry e { s with outq := rest } else s

/-- WAIT_FOR_REPLY: w1 (R270). -/
def evalWaitForReply (s : State) : State :=
  if expired s .reply s.cfg.tReplyTimeout then setRingState .doneWithToken s else s

/-- DONE_WITH_TOKEN: d1, d2 (R274, R275). -/
def evalDoneWithToken (s : State) : State :=
  if s.cfg.npoll.toNat ≤ s.ring.tokenCount.toNat then
    enterPollForMaster { s with ring := { s.ring with tokenCount := 0 } }
  else setRingState .passToken s

/-- `TOKEN_COUNT <- min(255, TOKEN_COUNT + 1)` (R276). -/
def bumpTokenCount (s : State) : State :=
  { s with ring := { s.ring with tokenCount := if s.ring.tokenCount = 255 then 255 else s.ring.tokenCount + 1 } }

/-- PASS_TOKEN: p1, p2 (R276). -/
def evalPassToken (s : State) : State :=
  if turnaroundOk s then
    let s := bumpTokenCount (tx tagToken s.ring.nextStation [] s)
    if s.ring.nextStation = s.cfg.thisStation then enterUseToken s else enterIdle s
  else s

/-- NO_TOKEN: n1 (R278). -/
def evalNoToken (s : State) : State :=
  if expired s .noToken s.cfg.tNoToken then enterPollForMaster s else s

/-- `PFM_SENT <- v`. -/
def setPfmSent (v : Bool) (s : State) : State :=
  { s with ring := { s.ring with pfmSent := v } }

/-- The probe of `POLL_STATION`: `Tx(FRAME(PFM, POLL_STATION, TS)); arm(TS_POLL)` (R282, R283). -/
def sendProbe (s : State) : State :=
  arm .poll (tx tagPfm s.ring.pollStation [] s)

/-- The next address of the sweep (R283). -/
def nextProbe (s : State) : State :=
  let s := { s with ring := { s.ring with pollStation := succ s.cfg s.ring.pollStation } }
  if s.ring.pollStation = s.cfg.thisStation then promote (setPfmSent false s)
  else if turnaroundOk s then sendProbe s
  else setPfmSent false s

/-- POLL_FOR_MASTER: f1 to f4 (R280 to R283). -/
def evalPollForMaster (s : State) : State :=
  if expired s .noToken s.cfg.tNoToken then enterIdle s
  else if s.ring.pfmSent then
    if expired s .poll s.cfg.tPollTimeout then nextProbe s else s
  else if s.ring.pollStation = s.cfg.thisStation then promote s
  else if turnaroundOk s then setPfmSent true (sendProbe s)
  else s

/-- The slave-role reply: `Tx(FRAME(DNER, REPLY_TO, TS, REPLY_PAYLOAD)); REPLY_VALID <- 0; enter_idle`
(R286, R287). -/
def sendReply (s : State) : State :=
  let s := tx tagDner s.ring.replyTo s.ring.replyPayload s
  enterIdle { s with ring := { s.ring with replyValid := false } }

/-- ANSWER_DATA_REQUEST under MAXIMUM semantics: a1, a2, a3 (R286). -/
def evalAnswerMaximum (s : State) : State :=
  if s.ring.replyValid then
    if turnaroundOk s then sendReply s else s
  else if expired s .replyDelay s.cfg.tReplyDelay then enterIdle s
  else s

/-- ANSWER_DATA_REQUEST under MINIMUM semantics: a1', a2', a3' (R287). -/
def evalAnswerMinimum (s : State) : State :=
  if s.ring.replyValid then
    if turnaroundOk s && expired s .replyDelay s.cfg.tReplyDelay then sendReply s else s
  else if expired s .replyDelay s.cfg.tReplyTimeout then enterIdle s
  else s

/-- ANSWER_DATA_REQUEST, by `CFG.reply_delay_semantics`. No rule has a guard for a third value, which no valid
configuration holds (R451), so nothing happens under one (R246). -/
def evalAnswer (s : State) : State :=
  match s.cfg.replyDelaySemantics with
  | .maximum => evalAnswerMaximum s
  | .minimum => evalAnswerMinimum s
  | .invalid _ => s

/-- Evaluation of the current state, phase 4 (R245, R246): at most one rule fires. -/
def evaluate (s : State) : State :=
  match s.ring.state with
  | .init => evalInitialize s
  | .idle => evalIdle s
  | .useToken => evalUseToken s
  | .waitForReply => evalWaitForReply s
  | .doneWithToken => evalDoneWithToken s
  | .passToken => evalPassToken s
  | .noToken => evalNoToken s
  | .pollForMaster => evalPollForMaster s
  | .answerDataRequest => evalAnswer s

end Sys2Proof.Machine
end

