-- ==== Sys2Proof/Machine/Frames.lean ====
section
/-! DEFINITION. The meaning of each received frame type (41_ring_state_machine.md sections 4 and 5): what
`FrameHandler(f)` does in phase 3 of the step whose octet completes the frame (R194, R290). -/
namespace Sys2Proof.Machine

/-- `WfrReject()` (R293). -/
def wfrReject (s : State) : State :=
  enterIdle (count .anomaly s)

/-- `WfrAccept(f)` (R293). -/
def wfrAccept (f : Received) (s : State) : State :=
  setRingState .doneWithToken (deliverIfGood f s)

/-- The reject-list rule of WAIT_FOR_REPLY: the tag alone decides (R294). -/
def waitForReplyFrame (tag : Byte) (f : Received) (s : State) : State :=
  if tag ∈ rejectSet then wfrReject s else wfrAccept f s

/-- `AcceptPollReply(f)` (R292). -/
def acceptPollReply (f : Received) (s : State) : State :=
  { s with ring := { s.ring with nextStation := f.src, soleMaster := false, state := .passToken } }

/-- The dispatch of a frame by the ring state (R290): WAIT_FOR_REPLY by the reject-list rule whatever the
type, IDLE and POLL_FOR_MASTER by the type's own rules, ignored in every other state. -/
def frameInState (tag : Byte) (f : Received) (inIdle inPoll : State → State) (s : State) : State :=
  match s.ring.state with
  | .waitForReply => waitForReplyFrame tag f s
  | .idle => inIdle s
  | .pollForMaster => inPoll s
  | .init => s
  | .useToken => s
  | .doneWithToken => s
  | .passToken => s
  | .noToken => s
  | .answerDataRequest => s

/-- The frame is addressed to this station. -/
def toMe (f : Received) (s : State) : Bool :=
  decide (f.dest = s.cfg.thisStation)

/-- A frame the state does not act on (R290). -/
def ignore (s : State) : State := s

/-- The response IDLE comes to owe (R55, R310, R312). -/
def owe (kind : IdleRespKind) (dest : Addr) (payload : Octets) (s : State) : State :=
  { s with ring := { s.ring with idleRespKind := kind, idleRespDest := dest, idleRespPayload := payload } }

/-- TOKEN (R309). -/
def onToken (f : Received) (s : State) : State :=
  frameInState tagToken f (fun s => if toMe f s then enterUseToken s else s) ignore s

/-- PFM (R310). -/
def onPfm (f : Received) (s : State) : State :=
  frameInState tagPfm f (fun s => if toMe f s then owe .rpfm f.src [] s else s) ignore s

/-- RPFM (R311). -/
def onRpfm (f : Received) (s : State) : State :=
  frameInState tagRpfm f ignore (fun s => if toMe f s then acceptPollReply f s else s) s

/-- TEST_REQUEST (R312). -/
def onTestRequest (f : Received) (s : State) : State :=
  frameInState tagTestRequest f
    (fun s => if toMe f s then owe .testResponse f.src (if f.payloadOk then f.payload else []) s else s) ignore s

/-- TEST_RESPONSE (R313). -/
def onTestResponse (f : Received) (s : State) : State :=
  frameInState tagTestResponse f ignore ignore s

/-- DER (R314). -/
def onDer (f : Received) (s : State) : State :=
  frameInState tagDer f
    (fun s =>
      if toMe f s then enterAnswer f.src (deliverIfGood f s)
      else if f.dest = broadcast then deliverIfGood f s
      else s)
    ignore s

/-- DNER (R315). -/
def onDner (f : Received) (s : State) : State :=
  frameInState tagDner f
    (fun s => if toMe f s || decide (f.dest = broadcast) then deliverIfGood f s else s) ignore s

/-- UNRECOGNIZED (R316). -/
def onUnrecognized (tag : Byte) (f : Received) (s : State) : State :=
  frameInState tag f ignore ignore s

/-- VENDOR (R317). -/
def onVendor (tag : Byte) (f : Received) (s : State) : State :=
  frameInState tag f ignore ignore s

/-- `FrameHandler(f)`: the meaning of the frame's type (R290). -/
def frameHandler (f : RxFrame) (s : State) : State :=
  match FrameType.ofTag f.tag with
  | .token => onToken f.body s
  | .pfm => onPfm f.body s
  | .rpfm => onRpfm f.body s
  | .testRequest => onTestRequest f.body s
  | .testResponse => onTestResponse f.body s
  | .der => onDer f.body s
  | .dner => onDner f.body s
  | .unrecognized tag => onUnrecognized tag f.body s
  | .vendor tag => onVendor tag f.body s

/-- TOKEN, as an instruction. -/
def execToken (f : Received) (s : State) : Host.Outcome State Fault Refusal := .next (onToken f s)

/-- PFM, as an instruction. -/
def execPfm (f : Received) (s : State) : Host.Outcome State Fault Refusal := .next (onPfm f s)

/-- RPFM, as an instruction. -/
def execRpfm (f : Received) (s : State) : Host.Outcome State Fault Refusal := .next (onRpfm f s)

/-- TEST_REQUEST, as an instruction. -/
def execTestRequest (f : Received) (s : State) : Host.Outcome State Fault Refusal := .next (onTestRequest f s)

/-- TEST_RESPONSE, as an instruction. -/
def execTestResponse (f : Received) (s : State) : Host.Outcome State Fault Refusal := .next (onTestResponse f s)

/-- DER, as an instruction. -/
def execDer (f : Received) (s : State) : Host.Outcome State Fault Refusal := .next (onDer f s)

/-- DNER, as an instruction. -/
def execDner (f : Received) (s : State) : Host.Outcome State Fault Refusal := .next (onDner f s)

/-- UNRECOGNIZED, as an instruction. -/
def execUnrecognized (tag : Byte) (f : Received) (s : State) : Host.Outcome State Fault Refusal :=
  .next (onUnrecognized tag f s)

/-- VENDOR, as an instruction. -/
def execVendor (tag : Byte) (f : Received) (s : State) : Host.Outcome State Fault Refusal :=
  .next (onVendor tag f s)

end Sys2Proof.Machine
end

