-- ==== Sys2Proof/Machine/Events.lean ====
section
/-! DEFINITION. The step procedure (41_ring_state_machine.md R240 to R246) and the meaning of the seven input
events: RESET (R450), TICK (R248), OCTET (R194), ENQUEUE (R370), DEQUEUE (R380), ANSWER (R385) and
NO_ANSWER (R387). -/
namespace Sys2Proof.Machine

/-! ## The step procedure -/

/-- What an event's own action leaves: the state, and what the step returns to the port. -/
structure Acted where
  state : State
  result : Result
  entry : Option InEntry
deriving DecidableEq, Repr

/-- An action that returns no entry. -/
def Acted.plain (r : Result) (s : State) : Acted := { state := s, result := r, entry := none }

/-- `NOW <- t` (R242). -/
def setNow (t : Time) (s : State) : State :=
  { s with timing := { s.timing with now := t } }

/-- Phase 4 runs only if neither phase 2 nor phase 3 changed the state (R245). -/
def evaluateIfSame (s0 : RingState) (s : State) : State :=
  if s.ring.state = s0 then evaluate s else s

/-- Phases 2 to 5 of an admitted event's step (R240): the frame-abort check, the event's action, the
evaluation, the result. `s` has `NOW` already set. -/
def phases (port : Port) (action : State → Acted) (s : State) : State :=
  let a := action (abortCheck s)
  respond port a.result a.entry (evaluateIfSame s.ring.state a.state)

/-- The step of every event but RESET (R240 to R242). An event that is not admitted changes no register; its
port is returned the result code (R403, R407). -/
def eventStep (port : Port) (t : Time) (action : State → Acted) (s : State) : State :=
  if s.cfgValid then
    if t < s.timing.now then respond port .timeRegression none s
    else phases port action (setNow t s)
  else respond port .notConfigured none s

/-! ## The events' own actions, phase 3 -/

/-- TICK has no action of its own (R248). -/
def tickAction (s : State) : Acted := .plain .ok s

/-- The no-token timer is re-armed by an octet received in a listening state (R195). -/
def rearmSilence (before : RingState) (s : State) : State :=
  if listening before then arm .noToken s else s

/-- A completed frame is counted and handed to the state machine (R194, R200). -/
def dispatchFrame (f : Option RxFrame) (s : State) : State :=
  match f with
  | none => s
  | some f => frameHandler f (count .framesRx s)

/-- `RX_LAST <- NOW` (R195). -/
def stampRxLast (s : State) : State :=
  { s with timing := { s.timing with rxLast := s.timing.now } }

/-- The receiver consumes one octet: its registers and its counter (R194, R196 to R199). -/
def consume (r : ScanResult) (s : State) : State :=
  countScan r.counted { s with rx := r.rx }

/-- OCTET's action (R194). -/
def octetAction (b : Byte) (s : State) : Acted :=
  let r := scan s.build.maxPayload s.rx b
  .plain .ok (dispatchFrame r.frame (rearmSilence s.ring.state (stampRxLast (consume r s))))

/-- ENQUEUE's action (R370). -/
def enqueueAction (payload : Octets) (dest : Addr) (expectsReply : Bool) (s : State) : Acted :=
  if s.build.maxPayload < payload.length then .plain .tooLong s
  else if s.build.outqCap ≤ s.outq.length then .plain .full (count .outqReject s)
  else .plain .ok
    { s with outq := qPush s.outq { payload := payload, dest := dest, expectsReply := expectsReply } }

/-- DEQUEUE's action (R380). -/
def dequeueAction (s : State) : Acted :=
  match qPop s.inq with
  | none => .plain .empty s
  | some (e, rest) => { state := { s with inq := rest }, result := .ok, entry := some e }

/-- ANSWER's action (R385). -/
def answerAction (payload : Octets) (s : State) : Acted :=
  if answerExpected s then
    if s.build.maxPayload < payload.length then .plain .tooLong s
    else .plain .ok { s with ring := { s.ring with replyPayload := payload, replyValid := true } }
  else .plain .notExpected s

/-- NO_ANSWER's action (R387). -/
def noAnswerAction (s : State) : Acted :=
  if answerExpected s then .plain .ok (enterIdle s) else .plain .notExpected s

/-! ## RESET -/

/-- The registers after a successful RESET (R450, R452), before `enter_initialize`. The build parameters and
the ports' own data are no registers and stay. -/
def resetRegisters (t : Time) (cfg : Cfg) (s : State) : State :=
  { s with
    cfg := cfg
    cfgValid := true
    tFrameAbort := bitTimes cfg.nFrameAbortBits cfg.bitRate
    tTurnaround := bitTimes cfg.nTurnaroundBits cfg.bitRate
    timing := { now := t, rxLast := t, tsNoToken := t, tsReply := t, tsReplyDelay := t, tsUsage := t, tsPoll := t }
    ring :=
      { state := .init, tokenCount := cfg.npoll.setWidth 8, frameCount := 0,
        nextStation := cfg.thisStation, pollStation := cfg.thisStation, soleMaster := false, pfmSent := false,
        replyTo := 0, replyValid := false, replyPayload := [],
        idleRespKind := .none, idleRespDest := 0, idleRespPayload := [] }
    rx :=
      { state := .hunt, index := 0,
        hdr := { type := 0, dest := 0, src := 0, lenHi := 0, lenLo := 0, crc := 0 },
        hcrc := crc8Init, len := 0, dcrc := crc16Init, keep := true, crcLo := 0, crcHi := 0, buf := [] }
    outq := []
    inq := []
    cnt :=
      { hdrCrc := 0, payloadCrc := 0, oversize := 0, frameAbort := 0, anomaly := 0, inqOverflow := 0,
        outqReject := 0, framesRx := 0, framesTx := 0 } }

/-- The RESET step (R450): accepted in every state, whatever `NOW` is, and with no evaluation after it. -/
def resetStep (t : Time) (cfg : Cfg) (s : State) : State :=
  if validCfg cfg then respond .control .ok none (enterInitialize (resetRegisters t cfg s))
  else respond .control .configInvalid none { s with cfgValid := false }

/-! ## The meanings -/

/-- RESET (R450). -/
def execReset (t : Time) (cfg : Cfg) (s : State) : Host.Outcome State Fault Refusal :=
  .next (resetStep t cfg s)

/-- TICK (R248). -/
def execTick (t : Time) (s : State) : Host.Outcome State Fault Refusal :=
  .next (eventStep .clock t tickAction s)

/-- OCTET (R194). -/
def execOctet (t : Time) (b : Byte) (s : State) : Host.Outcome State Fault Refusal :=
  .next (eventStep .lineRx t (octetAction b) s)

/-- ENQUEUE (R370). -/
def execEnqueue (t : Time) (payload : Octets) (dest : Addr) (expectsReply : Bool) (s : State) :
    Host.Outcome State Fault Refusal :=
  .next (eventStep .hostOut t (enqueueAction payload dest expectsReply) s)

/-- DEQUEUE (R380). -/
def execDequeue (t : Time) (s : State) : Host.Outcome State Fault Refusal :=
  .next (eventStep .hostIn t dequeueAction s)

/-- ANSWER (R385). -/
def execAnswer (t : Time) (payload : Octets) (s : State) : Host.Outcome State Fault Refusal :=
  .next (eventStep .hostAnswer t (answerAction payload) s)

/-- NO_ANSWER (R387). -/
def execNoAnswer (t : Time) (s : State) : Host.Outcome State Fault Refusal :=
  .next (eventStep .hostAnswer t noAnswerAction s)

end Sys2Proof.Machine
end

