-- ==== Sys2Proof/Machine/Dispatch.lean ====
section
/-! DEFINITION. The meaning of every instruction, one arm per constructor of Instr. -/
namespace Sys2Proof.Machine

def exec (i : Instr) (s : State) : Host.Outcome State Fault Refusal :=
  match i with
  | .token f => Sys2Proof.Machine.execToken f s
  | .pfm f => Sys2Proof.Machine.execPfm f s
  | .rpfm f => Sys2Proof.Machine.execRpfm f s
  | .testRequest f => Sys2Proof.Machine.execTestRequest f s
  | .testResponse f => Sys2Proof.Machine.execTestResponse f s
  | .der f => Sys2Proof.Machine.execDer f s
  | .dner f => Sys2Proof.Machine.execDner f s
  | .unrecognized tag f => Sys2Proof.Machine.execUnrecognized tag f s
  | .vendor tag f => Sys2Proof.Machine.execVendor tag f s
  | .reset t cfg => Sys2Proof.Machine.execReset t cfg s
  | .tick t => Sys2Proof.Machine.execTick t s
  | .octet t b => Sys2Proof.Machine.execOctet t b s
  | .enqueue t payload dest er => Sys2Proof.Machine.execEnqueue t payload dest er s
  | .dequeue t => Sys2Proof.Machine.execDequeue t s
  | .answer t payload => Sys2Proof.Machine.execAnswer t payload s
  | .noAnswer t => Sys2Proof.Machine.execNoAnswer t s

end Sys2Proof.Machine
end

