-- ==== Sys2Proof/Machine/Fetch.lean ====
section
/-! DEFINITION. Where the step finds its instruction: the head of the list of event records that the ports
still have to deliver (log entries 1 and 3). -/
namespace Sys2Proof.Machine

/-- The refusal a record that is no event ends in (R172). -/
def refusalOf (e : DecodeError) : Refusal :=
  match e with
  | .notAnEvent code => .notAnEvent code
  | .emptyRecord => .malformedRecord .emptyRecord
  | .truncated => .malformedRecord .truncated
  | .trailingOctets => .malformedRecord .trailingOctets
  | .badFlag b => .malformedRecord (.badFlag b)
  | .noSync => .malformedRecord .noSync
  | .headerChecksum => .malformedRecord .headerChecksum

/-- A record placed as the next one to be delivered. -/
def State.deliverNext (s : State) (record : Octets) : State :=
  { s with inbox := record :: s.inbox }

/-- The receiver as it is just before the header checksum of an empty frame of type `tag` from station 0 to
station 0, the last octet having arrived at `NOW`; the checksum octet is the next record (log entry 3). -/
def State.withFrameArriving (s : State) (tag : Byte) : State :=
  let primed := { s with
    timing := { s.timing with rxLast := s.timing.now }
    rx := { s.rx with
      state := .header, index := 5,
      hdr := { s.rx.hdr with type := tag, dest := 0, src := 0, lenHi := 0, lenLo := 0 },
      hcrc := crc8Run crc8Init (headerOctets tag 0 0 0) } }
  primed.deliverNext (encode (.octet s.timing.now (headerCRC tag 0 0 0)))

end Sys2Proof.Machine
end

