-- ==== Sys2Proof/Machine/Step.lean ====
section
/-! DEFINITION. One step of the machine: the next event record is taken from its port, decoded and executed
(R240). -/
namespace Sys2Proof.Machine

/-- One step. With no record pending nothing changes (R438); a record that is no event is refused by name
(R172); an event is removed from its port and executed. -/
def step (s : State) : Host.Outcome State Fault Refusal :=
  match s.inbox with
  | [] => .next s
  | record :: rest =>
    match decodeEvent record with
    | .ok i => exec i { s with inbox := rest }
    | .error e => .refused (refusalOf e)

/-- `s` with an opcode-table word placed where `step` takes its next event from: an event's record at the head
of the pending records, or, for a frame type, the receiver primed with the frame's header and the frame's last
octet as the next event (log entry 3). -/
def State.withFetchWord (s : State) (nbits w : Nat) : State :=
  let low := BitVec.ofNat 8 (w % 2 ^ nbits)
  if low ≤ codeNoAnswer then s.deliverNext (tableWordOctets nbits w) else s.withFrameArriving low

end Sys2Proof.Machine
end

