-- ==== Sys2Proof/Safety.lean ====
section
/-! DEFINITION. What the claims about the machine are stated in: the range invariants of 10_state.md R90, the
port and time of an event, and runs of several instructions. -/
namespace Sys2Proof.Machine

/-- The receiver's part of R90, with what R60, R65 and R67 say of the registers in HEADER and DATA. -/
structure Rx.Inv (maxPayload : Nat) (rx : Rx) : Prop where
  /-- A stored payload fits (R90). -/
  bufFits : rx.buf.length ≤ maxPayload
  /-- `RX_INDEX` is 0..5 in HEADER (R60). -/
  headerIndex : rx.state = .header → rx.index.toNat ≤ 5
  /-- `RX_INDEX` is 0..`RX_LEN` + 1 in DATA (R60). -/
  dataIndex : rx.state = .data → rx.index.toNat ≤ rx.len.toNat + 1
  /-- DATA is entered only for a length above 0 (R197). -/
  dataLen : rx.state = .data → rx.len ≠ 0
  /-- `RX_KEEP` is 1 when `RX_LEN <= P_MAX_PAYLOAD` (R65). -/
  dataKeep : rx.state = .data → rx.keep = decide (rx.len.toNat ≤ maxPayload)
  /-- `RX_BUF` holds the first `RX_INDEX` octets, up to `RX_LEN`, of a payload that is stored (R67). -/
  dataBuf : rx.state = .data → rx.buf.length = if rx.keep then min rx.index.toNat rx.len.toNat else 0

/-- What R90 says of a configured block at a step boundary. -/
structure State.Configured (s : State) : Prop where
  /-- `CFG` holds a valid configuration (R42, R43). -/
  cfgOk : validCfg s.cfg = true
  /-- `T_FRAME_ABORT` is derived from the configuration (R44). -/
  frameAbort : s.tFrameAbort = bitTimes s.cfg.nFrameAbortBits s.cfg.bitRate
  /-- `T_TURNAROUND` is derived from the configuration (R44). -/
  turnaround : s.tTurnaround = bitTimes s.cfg.nTurnaroundBits s.cfg.bitRate
  /-- `FRAME_COUNT <= CFG.Nmax_info_frames`. -/
  frameCount : s.ring.frameCount.toNat ≤ s.cfg.nmaxInfoFrames.toNat
  /-- `QLen(OUTQ) <= P_OUTQ_CAP`. -/
  outqLen : s.outq.length ≤ s.build.outqCap
  /-- `QLen(INQ) <= P_INQ_CAP`. -/
  inqLen : s.inq.length ≤ s.build.inqCap
  /-- Every payload in `OUTQ` fits. -/
  outqFits : ∀ e ∈ s.outq, e.payload.length ≤ s.build.maxPayload
  /-- Every payload in `INQ` fits and is not empty (R375). -/
  inqFits : ∀ e ∈ s.inq, 1 ≤ e.payload.length ∧ e.payload.length ≤ s.build.maxPayload
  /-- The held reply fits. -/
  replyFits : s.ring.replyPayload.length ≤ s.build.maxPayload
  /-- The owed response fits. -/
  idleRespFits : s.ring.idleRespPayload.length ≤ s.build.maxPayload
  /-- Every timer start register is at most `NOW`. -/
  timers : ∀ tm, s.start tm ≤ s.timing.now
  /-- `RX_LAST <= NOW`. -/
  rxLast : s.timing.rxLast ≤ s.timing.now
  /-- `POLL_STATION <= CFG.Nmax_master`. -/
  pollStation : s.ring.pollStation ≤ s.cfg.nmaxMaster
  /-- The receiver's registers. -/
  rxOk : s.rx.Inv s.build.maxPayload

/-- The range invariants of R90: they hold at every step boundary with `CFG_VALID = 1`, for build parameters in
their ranges (R11). -/
structure State.Inv (s : State) : Prop where
  buildOk : s.build.wf
  configured : s.cfgValid = true → s.Configured

/-- The port and the time stamp of an event that step admission checks: every event but RESET (R241, R242). -/
def admissible (i : Instr) : Option (Port × Time) :=
  match i with
  | .tick t => some (.clock, t)
  | .octet t _ => some (.lineRx, t)
  | .enqueue t _ _ _ => some (.hostOut, t)
  | .dequeue t => some (.hostIn, t)
  | .answer t _ => some (.hostAnswer, t)
  | .noAnswer t => some (.hostAnswer, t)
  | .reset _ _ => none
  | .token _ => none
  | .pfm _ => none
  | .rpfm _ => none
  | .testRequest _ => none
  | .testResponse _ => none
  | .der _ => none
  | .dner _ => none
  | .unrecognized _ _ => none
  | .vendor _ _ => none

/-- The instructions one after another, stopping at the first that answers no next state. -/
def execAll : List Instr → State → Host.Outcome State Fault Refusal
  | [], s => .next s
  | i :: rest, s =>
    match exec i s with
    | .next s' => execAll rest s'
    | .fault r => .fault r
    | .refused r => .refused r

/-- OCTET events that bring `wire` to a receiver, the first not before `now` and each less than `abort`
after the one before it (the premise of R162). -/
def PromptOctets (now : Time) (abort : Time) : List (Time × Byte) → Prop
  | [] => True
  | (t, _) :: rest => now ≤ t ∧ (∀ next ∈ rest.head?, next.1.toNat < t.toNat + abort.toNat) ∧ PromptOctets t abort rest

/-- The OCTET events of a list of time-stamped octets. -/
def octetInstrs (events : List (Time × Byte)) : List Instr :=
  events.map fun e => .octet e.1 e.2

/-- An admitted event finds the frame-abort check with nothing to do: the receiver hunts, or the silence is
shorter than `T_FRAME_ABORT` (R193). -/
def NoAbort (t : Time) (s : State) : Prop :=
  s.rx.state = .hunt ∨ ¬ s.tFrameAbort ≤ t - s.timing.rxLast

/-- An event at time `t` is admitted (R241, R242) and finds no partial frame to abort (R193). -/
def Quiet (t : Time) (s : State) : Prop :=
  s.cfgValid = true ∧ s.timing.now ≤ t ∧ NoAbort t s

end Sys2Proof.Machine
end

