-- ==== Sys2Proof/Certificates/Slice0/Obligations.lean ====
section
/-! DEFINITION. The statements for the provers: what the numbered rules say the link engine does. -/
open Sys2Proof Sys2Proof.Machine

/-! ## Encoding, decoding and the checksums -/

/-- Decoding the encoding of a well-formed instruction gives the instruction back, with every operand at every
value its encoding admits. The layout of the event records is the model's choice (log entry 2). -/
def Obligations.DecodeOfEncodeIsIdentity : Prop :=
  ∀ (maxPayload : Nat) (i : Instr), i.wf maxPayload = true → decode maxPayload (encode i) = .ok i

/-- R172: the seven event codes name the seven events, and no other code does. That the code is a record's first
octet is the model's choice (log entry 2). -/
def Obligations.OnlyCodesZeroToSixAreEvents : Prop :=
  (∀ (code : Byte) (rest : Octets) (i : Instr), decodeEvent (code :: rest) = .ok i →
    (code = 0 ∧ ∃ t cfg, i = .reset t cfg) ∨ (code = 1 ∧ ∃ t, i = .tick t) ∨ (code = 2 ∧ ∃ t b, i = .octet t b) ∨
    (code = 3 ∧ ∃ t p d er, i = .enqueue t p d er) ∨ (code = 4 ∧ ∃ t, i = .dequeue t) ∨
    (code = 5 ∧ ∃ t p, i = .answer t p) ∨ (code = 6 ∧ ∃ t, i = .noAnswer t)) ∧
  (∀ (code : Byte) (rest : Octets) (inbox : List Octets) (s : State), 6 < code →
    step { s with inbox := (code :: rest) :: inbox } = .refused (.notAnEvent code))

/-- R142: the fixed header is the first 8 octets, and nothing follows it in a frame of length 0; a frame of length
n above 0 is 8 + n + 2 octets long. -/
def Obligations.EncodedFrameLayout : Prop :=
  ∀ (ty dest src : Byte) (p : Octets),
    (encodeFrame ty dest src p).take 8 =
      [0x55, 0xFF, ty, dest, src, hiByte (BitVec.ofNat 16 p.length), loByte (BitVec.ofNat 16 p.length),
        headerCRC ty dest src (BitVec.ofNat 16 p.length)] ∧
    (encodeFrame ty dest src p).length = if p.length = 0 then 8 else 8 + p.length + 2

/-- R144 to R146: the assigned tags, the unassigned range and the vendor range, and every tag is kept. -/
def Obligations.EveryTagIsClassifiedAndKept : Prop :=
  FrameType.ofTag 0 = .token ∧ FrameType.ofTag 1 = .pfm ∧ FrameType.ofTag 2 = .rpfm ∧
  FrameType.ofTag 3 = .testRequest ∧ FrameType.ofTag 4 = .testResponse ∧ FrameType.ofTag 5 = .der ∧
  FrameType.ofTag 6 = .dner ∧
  (∀ tag : Byte, 7 ≤ tag → tag ≤ 0x7F → FrameType.ofTag tag = .unrecognized tag) ∧
  (∀ tag : Byte, 0x80 ≤ tag → FrameType.ofTag tag = .vendor tag) ∧
  (∀ tag : Byte, (FrameType.ofTag tag).tag = tag)

/-- The closed form and the table form of the header checksum's step (the spec's own inference, R151, which it checked
on random pairs: "An equivalent closed form", "[derived: from rule R150]"). -/
def Obligations.HeaderCrcClosedForm : Prop :=
  ∀ d c : Byte, crc8Step d c = crc8Closed d c ∧ crc8Step d c = crc8Step (c ^^^ d) 0

/-- The closed form of the payload checksum's step (the spec's own inference, R156, which it checked on random pairs:
"An equivalent closed form", "[derived: from rule R155]"). -/
def Obligations.PayloadCrcClosedForm : Prop :=
  ∀ (d : Byte) (c : BitVec 16), crc16Step d c = crc16Closed d c

/-- The receiver's header check, as an equality and as the residue 0x55 (the spec's own inference, in R152:
"Equivalently, running `crc8_step` from 0xFF ... leaves 0x55"). -/
def Obligations.HeaderCheckIsResidue : Prop :=
  ∀ (ty dest src : Byte) (len : BitVec 16) (c : Byte),
    c = headerCRC ty dest src len ↔ crc8Run 0xFF (headerOctets ty dest src len ++ [c]) = 0x55

/-- The payload check as the residue 0xF0B8 (the spec's own inference, the second sentence of R157). -/
def Obligations.PayloadCheckIsResidue : Prop :=
  ∀ (p : Octets) (lo hi : Byte),
    joinLE16 lo hi = payloadCRC p ↔ crc16Run 0xFFFF (p ++ [lo, hi]) = 0xF0B8

/-- A single-bit error in the payload or in its checksum octets makes the payload check fail, and one in the five
covered header octets or in the header checksum makes the header check fail (R163, which the spec takes from
general knowledge). -/
def Obligations.ChecksFindSingleBitErrors : Prop :=
  (∀ (p : Octets) (i k : Nat), i < p.length + 2 → k < 8 →
    let sent := p ++ [loByte (payloadCRC p), hiByte (payloadCRC p)]
    let got := sent.modify i (fun b => b ^^^ (1#8 <<< k))
    joinLE16 (got.getD p.length 0) (got.getD (p.length + 1) 0) ≠ payloadCRC (got.take p.length)) ∧
  (∀ (ty dest src : Byte) (len : BitVec 16) (i k : Nat), i < 6 → k < 8 →
    let sent := headerOctets ty dest src len ++ [headerCRC ty dest src len]
    let got := sent.modify i (fun b => b ^^^ (1#8 <<< k))
    got.getD 5 0 ≠ ~~~ (crc8Run 0xFF (got.take 5)))

/-- A few frames of 95_test_vectors.md section 3.1 and one event record (the model's layout, log entry 2), written
out, decode to what they stand for. -/
def Obligations.WrittenOutWordsDecode : Prop :=
  decode 501 [0x55, 0xFF, 0x00, 0x05, 0x04, 0x00, 0x00, 0x37] =
    .ok (.token { dest := 5, src := 4, len := 0, payload := [], payloadOk := true }) ∧
  decode 501 [0x55, 0xFF, 0x05, 0x06, 0x05, 0x00, 0x02, 0x50, 0x10, 0x20, 0xD4, 0xBB] =
    .ok (.der { dest := 6, src := 5, len := 2, payload := [0x10, 0x20], payloadOk := true }) ∧
  decode 501 [0x55, 0xFF, 0x80, 0x05, 0x06, 0x00, 0x01, 0x3F, 0xAA, 0x28, 0xFA] =
    .ok (.vendor 0x80 { dest := 5, src := 6, len := 1, payload := [0xAA], payloadOk := true }) ∧
  decode 501 [2, 0, 0, 0, 0, 0, 0, 0, 9, 0x55] = .ok (.octet 9 0x55)

/-! ## The step -/

/-- A step runs the event that the next record decodes to, on the state without that record; and with no record
pending nothing changes (R438). That the ports' records wait in a list is the model's choice (log entry 1). -/
def Obligations.StepRunsTheDecodedEvent : Prop :=
  (∀ (s : State) (record : Octets) (rest : List Octets) (i : Instr),
    s.inbox = record :: rest → decodeEvent record = .ok i → step s = exec i { s with inbox := rest }) ∧
  (∀ s : State, s.inbox = [] → step s = .next s)

/-- An octet that completes a frame runs the frame's instruction: the step is the frame-abort check, the
receiver's bookkeeping (R194, R195), the instruction the frame decodes to, and then the evaluation unless the
state changed (R245). -/
def Obligations.CompletedFrameRunsItsInstruction : Prop :=
  ∀ (s : State) (t : Time) (b : Byte) (f : RxFrame), Quiet t s →
    (scan s.build.maxPayload s.rx b).frame = some f →
    ∃ s1, exec (Instr.ofFrame f)
        { countScan (scan s.build.maxPayload s.rx b).counted s with
          rx := (scan s.build.maxPayload s.rx b).rx
          timing := { s.timing with
            now := t, rxLast := t
            tsNoToken := if listening s.ring.state then t else s.timing.tsNoToken }
          cnt := (countScan (scan s.build.maxPayload s.rx b).counted s).cnt.bump .framesRx } = .next s1 ∧
      exec (.octet t b) s = .next (respond .lineRx .ok none
        (if s1.ring.state = s.ring.state then evaluate s1 else s1))

/-- Refused events (R241, R242, R407): with `CFG_VALID = 0` every event but RESET returns NOT_CONFIGURED, and in a
configured block one from before `NOW` returns TIME_REGRESSION; neither changes anything but the model's own log of
what the ports were returned (log entry 4). From power-on, whatever the registers other than `CFG_VALID` hold (R41,
R43), the block does nothing until a RESET with a valid configuration (R453): any run of other events and invalid
RESETs leaves the state as it was but for that log, and answers each of them once. -/
def Obligations.RefusedEventsChangeNothing : Prop :=
  (∀ (i : Instr) (port : Port) (t : Time) (s : State), admissible i = some (port, t) →
    (s.cfgValid = false →
      exec i s = .next { s with
        responses := s.responses ++ [{ port := port, result := .notConfigured, entry := none }] }) ∧
    (s.cfgValid = true → t < s.timing.now →
      exec i s = .next { s with
        responses := s.responses ++ [{ port := port, result := .timeRegression, entry := none }] })) ∧
  (∀ (events : List Instr) (s : State), s.atPowerOn →
    (∀ i ∈ events, (admissible i).isSome = true ∨ ∃ t cfg, i = .reset t cfg ∧ validCfg cfg = false) →
    ∃ s', execAll events s = .next s' ∧ { s' with responses := s.responses } = s ∧
      s'.responses.length = events.length)

/-- An admitted event sets `NOW` to its time stamp, and is answered once, on its own port (R242, R403). -/
def Obligations.AdmittedEventsSetNowAndAnswerOnce : Prop :=
  ∀ (i : Instr) (port : Port) (t : Time) (s : State), admissible i = some (port, t) → s.cfgValid = true →
    s.timing.now ≤ t →
    ∃ s' r e, exec i s = .next s' ∧ s'.timing.now = t ∧
      s'.responses = s.responses ++ [{ port := port, result := r, entry := e }] ∧
      r ≠ .notConfigured ∧ r ≠ .timeRegression ∧ r ≠ .configInvalid ∧ s'.inbox = s.inbox

/-! ## RESET -/

/-- R450: RESET with a valid configuration sets every register, in every state and whatever `NOW` is; with an
invalid one it leaves the block unconfigured and changes nothing else. -/
def Obligations.ResetSetsEveryRegister : Prop :=
  (∀ (s : State) (t : Time) (cfg : Cfg), validCfg cfg = true →
    exec (.reset t cfg) s = .next {
      build := s.build
      cfg := cfg
      cfgValid := true
      tFrameAbort := bitTimes cfg.nFrameAbortBits cfg.bitRate
      tTurnaround := bitTimes cfg.nTurnaroundBits cfg.bitRate
      ring := {
        state := .init, tokenCount := cfg.npoll.setWidth 8, frameCount := 0, nextStation := cfg.thisStation,
        pollStation := cfg.thisStation, soleMaster := false, pfmSent := false, replyTo := 0, replyValid := false,
        replyPayload := [], idleRespKind := .none, idleRespDest := 0, idleRespPayload := [] }
      timing := {
        now := t, rxLast := t, tsNoToken := t, tsReply := t, tsReplyDelay := t, tsUsage := t, tsPoll := t }
      rx := {
        state := .hunt, index := 0, hdr := { type := 0, dest := 0, src := 0, lenHi := 0, lenLo := 0, crc := 0 },
        hcrc := 0xFF, len := 0, dcrc := 0xFFFF, keep := true, crcLo := 0, crcHi := 0, buf := [] }
      outq := []
      inq := []
      cnt := {
        hdrCrc := 0, payloadCrc := 0, oversize := 0, frameAbort := 0, anomaly := 0, inqOverflow := 0,
        outqReject := 0, framesRx := 0, framesTx := 0 }
      inbox := s.inbox
      lineTx := s.lineTx
      responses := s.responses ++ [{ port := .control, result := .ok, entry := none }] }) ∧
  (∀ (s : State) (t : Time) (cfg : Cfg), validCfg cfg = false →
    exec (.reset t cfg) s = .next { s with
      cfgValid := false
      responses := s.responses ++ [{ port := .control, result := .configInvalid, entry := none }] })

/-- R451: when a configuration is valid, in the rule's own words. -/
def Obligations.ValidConfigurationConditions : Prop :=
  ∀ cfg : Cfg, validCfg cfg = true ↔
    cfg.nmaxMaster.toNat ≤ 127 ∧ cfg.thisStation.toNat ≤ cfg.nmaxMaster.toNat ∧
    (1 ≤ cfg.nmaxInfoFrames.toNat ∧ cfg.nmaxInfoFrames.toNat ≤ 255) ∧
    (1 ≤ cfg.npoll.toNat ∧ cfg.npoll.toNat ≤ 255) ∧
    1 ≤ cfg.bitRate.toNat ∧
    (1 ≤ cfg.tReplyTimeout.toNat ∧ 1 ≤ cfg.tReplyDelay.toNat ∧ 1 ≤ cfg.tUsageTimeout.toNat ∧
      1 ≤ cfg.tNoToken.toNat ∧ 1 ≤ cfg.tPollTimeout.toNat) ∧
    (1 ≤ cfg.nFrameAbortBits.toNat ∧ 1 ≤ cfg.nTurnaroundBits.toNat) ∧
    (cfg.replyDelaySemantics = .maximum ∨ cfg.replyDelaySemantics = .minimum)

/-- `State.reset` holds, in every register, what a RESET at its time with its configuration leaves, from any state
(the table of R452, which the spec derives). That its time is 0 and its station 0 is the model's choice (log entry
6). -/
def Obligations.ResetStateIsWhatResetLeaves : Prop :=
  ∀ s : State,
    exec (.reset State.reset.timing.now State.reset.cfg) { s with build := State.reset.build } =
      .next { State.reset with
        inbox := s.inbox
        lineTx := s.lineTx
        responses := s.responses ++ [{ port := .control, result := .ok, entry := none }] }

/-- The bit-time intervals of R352 are at least 1 microsecond, and they are the bit times rounded up: no
shorter than the bits take, and not by a whole microsecond longer. -/
def Obligations.BitTimesRoundUp : Prop :=
  ∀ (n : BitVec 16) (rate : BitVec 32), 1 ≤ n.toNat → 1 ≤ rate.toNat →
    1 ≤ (bitTimes n rate).toNat ∧
    n.toNat * 1000000 ≤ (bitTimes n rate).toNat * rate.toNat ∧
    ((bitTimes n rate).toNat - 1) * rate.toNat < n.toNat * 1000000

/-! ## TICK: the evaluation rules of each state -/

/-- INITIALIZE and NO_TOKEN at a tick: the silence rules z1 (R258) and n1 (R278), and nothing else. -/
def Obligations.TickInInitializeAndNoToken : Prop :=
  (∀ (s : State) (t : Time), Quiet t s → s.ring.state = .init →
    exec (.tick t) s = .next (
      let s : State := { s with
        timing := { s.timing with now := t }
        responses := s.responses ++ [{ port := .clock, result := .ok, entry := none }] }
      if s.cfg.tNoToken.setWidth 64 ≤ t - s.timing.tsNoToken then
        { s with
          ring := { s.ring with state := .idle, idleRespKind := .none }
          timing := { s.timing with tsNoToken := t } }
      else s)) ∧
  (∀ (s : State) (t : Time), Quiet t s → s.ring.state = .noToken →
    exec (.tick t) s = .next (
      let s : State := { s with
        timing := { s.timing with now := t }
        responses := s.responses ++ [{ port := .clock, result := .ok, entry := none }] }
      if s.cfg.tNoToken.setWidth 64 ≤ t - s.timing.tsNoToken then
        { s with
          ring := { s.ring with
            state := .pollForMaster, pollStation := succ s.cfg s.cfg.thisStation, pfmSent := false }
          timing := { s.timing with tsNoToken := t } }
      else s))

/-- IDLE at a tick: i1, i2 and i3 (R260). -/
def Obligations.TickInIdle : Prop :=
  ∀ (s : State) (t : Time), Quiet t s → s.ring.state = .idle →
    exec (.tick t) s = .next (
      let s : State := { s with
        timing := { s.timing with now := t }
        responses := s.responses ++ [{ port := .clock, result := .ok, entry := none }] }
      if s.ring.idleRespKind = .none then
        if s.cfg.tNoToken.setWidth 64 ≤ t - s.timing.tsNoToken then
          { s with
            ring := { s.ring with
              state := .pollForMaster, pollStation := succ s.cfg s.cfg.thisStation, pfmSent := false }
            timing := { s.timing with tsNoToken := t } }
        else s
      else if s.tTurnaround ≤ t - s.timing.rxLast then
        { s with
          ring := { s.ring with idleRespKind := .none }
          lineTx := s.lineTx ++ [{ time := t, octets := (
            if s.ring.idleRespKind = .rpfm then encodeFrame 2 s.ring.idleRespDest s.cfg.thisStation []
            else encodeFrame 4 s.ring.idleRespDest s.cfg.thisStation s.ring.idleRespPayload) }]
          cnt := { s.cnt with framesTx := s.cnt.framesTx + 1 } }
      else s)

/-- USE_TOKEN at a tick: u1 to u5 (R264 to R268). -/
def Obligations.TickInUseToken : Prop :=
  ∀ (s : State) (t : Time), Quiet t s → s.ring.state = .useToken →
    exec (.tick t) s = .next (
      let s : State := { s with
        timing := { s.timing with now := t }
        responses := s.responses ++ [{ port := .clock, result := .ok, entry := none }] }
      if s.cfg.tUsageTimeout.setWidth 64 ≤ t - s.timing.tsUsage then
        { s with ring := { s.ring with state := .doneWithToken } }
      else if s.cfg.nmaxInfoFrames.toNat ≤ s.ring.frameCount.toNat then
        { s with ring := { s.ring with state := .doneWithToken } }
      else match s.outq with
        | [] => { s with ring := { s.ring with state := .doneWithToken } }
        | e :: rest =>
          if ¬ s.tTurnaround ≤ t - s.timing.rxLast then s
          else if e.expectsReply = true ∧ e.dest ≠ 255 then
            { s with
              outq := rest
              lineTx := s.lineTx ++ [{ time := t, octets := encodeFrame 5 e.dest s.cfg.thisStation e.payload }]
              cnt := { s.cnt with framesTx := s.cnt.framesTx + 1 }
              ring := { s.ring with frameCount := s.ring.frameCount + 1, state := .waitForReply }
              timing := { s.timing with tsReply := t } }
          else
            { s with
              outq := rest
              lineTx := s.lineTx ++ [{ time := t, octets := encodeFrame 6 e.dest s.cfg.thisStation e.payload }]
              cnt := { s.cnt with framesTx := s.cnt.framesTx + 1 }
              ring := { s.ring with frameCount := s.ring.frameCount + 1 } })

/-- WAIT_FOR_REPLY at a tick: w1 (R270), with no payload delivered. -/
def Obligations.TickInWaitForReply : Prop :=
  ∀ (s : State) (t : Time), Quiet t s → s.ring.state = .waitForReply →
    exec (.tick t) s = .next { s with
      timing := { s.timing with now := t }
      responses := s.responses ++ [{ port := .clock, result := .ok, entry := none }]
      ring := { s.ring with
        state := (if s.cfg.tReplyTimeout.setWidth 64 ≤ t - s.timing.tsReply then .doneWithToken else .waitForReply) } }

/-- DONE_WITH_TOKEN at a tick: d1 and d2 (R274, R275). -/
def Obligations.TickInDoneWithToken : Prop :=
  ∀ (s : State) (t : Time), Quiet t s → s.ring.state = .doneWithToken →
    exec (.tick t) s = .next (
      let s : State := { s with
        timing := { s.timing with now := t }
        responses := s.responses ++ [{ port := .clock, result := .ok, entry := none }] }
      if s.cfg.npoll.toNat ≤ s.ring.tokenCount.toNat then
        { s with
          ring := { s.ring with
            tokenCount := 0, state := .pollForMaster, pollStation := succ s.cfg s.cfg.thisStation, pfmSent := false }
          timing := { s.timing with tsNoToken := t } }
      else { s with ring := { s.ring with state := .passToken } })

/-- PASS_TOKEN at a tick: p1 and p2 (R276). -/
def Obligations.TickInPassToken : Prop :=
  ∀ (s : State) (t : Time), Quiet t s → s.ring.state = .passToken →
    exec (.tick t) s = .next (
      let s : State := { s with
        timing := { s.timing with now := t }
        responses := s.responses ++ [{ port := .clock, result := .ok, entry := none }] }
      if s.tTurnaround ≤ t - s.timing.rxLast then
        let s : State := { s with
          lineTx := s.lineTx ++ [{ time := t, octets := encodeFrame 0 s.ring.nextStation s.cfg.thisStation [] }]
          cnt := { s.cnt with framesTx := s.cnt.framesTx + 1 }
          ring := { s.ring with tokenCount := BitVec.ofNat 8 (min 255 (s.ring.tokenCount.toNat + 1)) } }
        if s.ring.nextStation = s.cfg.thisStation then
          { s with
            ring := { s.ring with state := .useToken, frameCount := 0 }
            timing := { s.timing with tsUsage := t } }
        else
          { s with
            ring := { s.ring with state := .idle, idleRespKind := .none }
            timing := { s.timing with tsNoToken := t } }
      else s)

/-- POLL_FOR_MASTER at a tick: f1 to f4, with the promotion of R284 (R280 to R284). -/
def Obligations.TickInPollForMaster : Prop :=
  ∀ (s : State) (t : Time), Quiet t s → s.ring.state = .pollForMaster →
    exec (.tick t) s = .next (
      let s : State := { s with
        timing := { s.timing with now := t }
        responses := s.responses ++ [{ port := .clock, result := .ok, entry := none }] }
      let promoted : Addr → State := fun poll =>
        { s with
          ring := { s.ring with
            pollStation := poll, pfmSent := false, soleMaster := true, nextStation := s.cfg.thisStation,
            state := .useToken, frameCount := 0 }
          timing := { s.timing with tsUsage := t } }
      let probing : Addr → State := fun poll =>
        { s with
          ring := { s.ring with pollStation := poll, pfmSent := true }
          lineTx := s.lineTx ++ [{ time := t, octets := encodeFrame 1 poll s.cfg.thisStation [] }]
          cnt := { s.cnt with framesTx := s.cnt.framesTx + 1 }
          timing := { s.timing with tsPoll := t } }
      if s.cfg.tNoToken.setWidth 64 ≤ t - s.timing.tsNoToken then
        { s with
          ring := { s.ring with state := .idle, idleRespKind := .none }
          timing := { s.timing with tsNoToken := t } }
      else if s.ring.pfmSent = false then
        if s.ring.pollStation = s.cfg.thisStation then promoted s.ring.pollStation
        else if s.tTurnaround ≤ t - s.timing.rxLast then probing s.ring.pollStation
        else s
      else if s.cfg.tPollTimeout.setWidth 64 ≤ t - s.timing.tsPoll then
        if succ s.cfg s.ring.pollStation = s.cfg.thisStation then promoted (succ s.cfg s.ring.pollStation)
        else if s.tTurnaround ≤ t - s.timing.rxLast then probing (succ s.cfg s.ring.pollStation)
        else { s with ring := { s.ring with pollStation := succ s.cfg s.ring.pollStation, pfmSent := false } }
      else s)

/-- ANSWER_DATA_REQUEST at a tick: a1 to a3 under MAXIMUM (R286) and a1' to a3' under MINIMUM (R287). -/
def Obligations.TickInAnswerDataRequest : Prop :=
  ∀ (s : State) (t : Time), Quiet t s → s.ring.state = .answerDataRequest →
    (s.cfg.replyDelaySemantics = .maximum ∨ s.cfg.replyDelaySemantics = .minimum) →
    exec (.tick t) s = .next (
      let s : State := { s with
        timing := { s.timing with now := t }
        responses := s.responses ++ [{ port := .clock, result := .ok, entry := none }] }
      let waited := t - s.timing.tsReplyDelay
      if s.ring.replyValid = true then
        if s.tTurnaround ≤ t - s.timing.rxLast ∧
            (s.cfg.replyDelaySemantics = .maximum ∨ s.cfg.tReplyDelay.setWidth 64 ≤ waited) then
          { s with
            lineTx := s.lineTx ++
              [{ time := t, octets := encodeFrame 6 s.ring.replyTo s.cfg.thisStation s.ring.replyPayload }]
            cnt := { s.cnt with framesTx := s.cnt.framesTx + 1 }
            ring := { s.ring with replyValid := false, state := .idle, idleRespKind := .none }
            timing := { s.timing with tsNoToken := t } }
        else s
      else if
          (s.cfg.replyDelaySemantics = .maximum ∧ s.cfg.tReplyDelay.setWidth 64 ≤ waited) ∨
          (s.cfg.replyDelaySemantics = .minimum ∧ s.cfg.tReplyTimeout.setWidth 64 ≤ waited) then
        { s with
          ring := { s.ring with state := .idle, idleRespKind := .none }
          timing := { s.timing with tsNoToken := t } }
      else s)

/-- The frame-abort check (R193), run by every admitted event: after `T_FRAME_ABORT` of silence a partial frame is
discarded and counted, a broken preamble is discarded without a count, and the event goes on as if the receiver had
been hunting. In WAIT_FOR_REPLY the discarded partial frame ends the wait, with nothing delivered and no evaluation;
an OCTET that reveals it there is then scanned from HUNT and writes `RX_LAST`, and does not re-arm the no-token
timer. -/
def Obligations.SilenceAbortsAPartialFrame : Prop :=
  (∀ (i : Instr) (port : Port) (t : Time) (s : State), admissible i = some (port, t) →
    s.cfgValid = true → s.timing.now ≤ t → s.tFrameAbort ≤ t - s.timing.rxLast →
    (s.rx.state = .preamble →
      exec i s = exec i { s with rx := { s.rx with state := .hunt } }) ∧
    ((s.rx.state = .header ∨ s.rx.state = .data) → s.ring.state ≠ .waitForReply →
      exec i s = exec i { s with
        rx := { s.rx with state := .hunt }
        cnt := { s.cnt with frameAbort := s.cnt.frameAbort + 1 } })) ∧
  (∀ (s : State) (t : Time), s.cfgValid = true → s.timing.now ≤ t → s.tFrameAbort ≤ t - s.timing.rxLast →
    (s.rx.state = .header ∨ s.rx.state = .data) → s.ring.state = .waitForReply →
    exec (.tick t) s = .next { s with
      rx := { s.rx with state := .hunt }
      ring := { s.ring with state := .doneWithToken }
      cnt := { s.cnt with frameAbort := s.cnt.frameAbort + 1 }
      timing := { s.timing with now := t }
      responses := s.responses ++ [{ port := .clock, result := .ok, entry := none }] }) ∧
  (∀ (s : State) (t : Time) (b : Byte), s.cfgValid = true → s.timing.now ≤ t →
    s.tFrameAbort ≤ t - s.timing.rxLast → (s.rx.state = .header ∨ s.rx.state = .data) →
    s.ring.state = .waitForReply →
    exec (.octet t b) s = .next { s with
      rx := { s.rx with state := if b = 0x55 then .preamble else .hunt }
      ring := { s.ring with state := .doneWithToken }
      cnt := { s.cnt with frameAbort := s.cnt.frameAbort + 1 }
      timing := { s.timing with now := t, rxLast := t }
      responses := s.responses ++ [{ port := .lineRx, result := .ok, entry := none }] })

/-! ## OCTET: the receiver -/

/-- An octet that completes no frame (R194, R195): the receiver's registers and counter are the scan's, `RX_LAST`
is the octet's time, the no-token timer is re-armed in INITIALIZE, IDLE and NO_TOKEN only, and the step goes on as
a tick at that time would; the answer goes to LINE_RX. -/
def Obligations.OctetWithoutAFrameIsATick : Prop :=
  ∀ (s : State) (t : Time) (b : Byte), Quiet t s → 1 ≤ s.tFrameAbort.toNat →
    (scan s.build.maxPayload s.rx b).frame = none →
    ∃ s', exec (.tick t) { s with
        rx := (scan s.build.maxPayload s.rx b).rx
        cnt := (countScan (scan s.build.maxPayload s.rx b).counted s).cnt
        timing := { s.timing with
          rxLast := t
          tsNoToken := (if s.ring.state = .init ∨ s.ring.state = .idle ∨ s.ring.state = .noToken then t
            else s.timing.tsNoToken) } } = .next s' ∧
      exec (.octet t b) s = .next { s' with
        responses := s.responses ++ [{ port := .lineRx, result := .ok, entry := none }] }

/-- OCTET in HUNT and PREAMBLE (R196), with the timing registers' writes of R195. -/
def Obligations.OctetSearchesForThePattern : Prop :=
  ∀ (s : State) (t : Time) (b : Byte), Quiet t s → (s.rx.state = .hunt ∨ s.rx.state = .preamble) →
    ∃ s', exec (.octet t b) s = .next s' ∧ s'.timing.now = t ∧ s'.timing.rxLast = t ∧
      s'.rx = (if s.rx.state = .hunt then
          (if b = 0x55 then { s.rx with state := .preamble } else s.rx)
        else if b = 0xFF then { s.rx with state := .header, index := 0, hcrc := 0xFF }
        else if b = 0x55 then s.rx
        else { s.rx with state := .hunt }) ∧
      s'.inq = s.inq ∧ { s'.cnt with framesTx := s.cnt.framesTx } = s.cnt ∧
      s'.responses = s.responses ++ [{ port := .lineRx, result := .ok, entry := none }]

/-- OCTET in HEADER (R197): the five covered octets are collected, the sixth is checked, and a frame of length 0 is
complete. -/
def Obligations.OctetCollectsAndChecksTheHeader : Prop :=
  ∀ (s : State) (t : Time) (b : Byte), Quiet t s → s.rx.state = .header → s.rx.index.toNat ≤ 5 →
    ∃ s', exec (.octet t b) s = .next s' ∧ s'.timing.rxLast = t ∧
      (s.rx.index.toNat < 5 →
        s'.rx = { s.rx with
          hdr := s.rx.hdr.set s.rx.index.toNat b, hcrc := crc8Step b s.rx.hcrc, index := s.rx.index + 1 } ∧
        { s'.cnt with framesTx := s.cnt.framesTx } = s.cnt ∧ s'.inq = s.inq) ∧
      (s.rx.index.toNat = 5 → b ≠ ~~~ s.rx.hcrc →
        s'.rx = { s.rx with hdr := { s.rx.hdr with crc := b }, state := .hunt } ∧
        { s'.cnt with framesTx := s.cnt.framesTx } = { s.cnt with hdrCrc := s.cnt.hdrCrc + 1 } ∧ s'.inq = s.inq) ∧
      (s.rx.index.toNat = 5 → b = ~~~ s.rx.hcrc → joinBE16 s.rx.hdr.lenHi s.rx.hdr.lenLo = 0 →
        (scan s.build.maxPayload s.rx b).frame = some { tag := s.rx.hdr.type, body :=
          { dest := s.rx.hdr.dest, src := s.rx.hdr.src, len := 0, payload := [], payloadOk := true } } ∧
        s'.rx = { s.rx with hdr := { s.rx.hdr with crc := b }, len := 0, state := .hunt } ∧
        s'.cnt.framesRx = s.cnt.framesRx + 1) ∧
      (s.rx.index.toNat = 5 → b = ~~~ s.rx.hcrc → joinBE16 s.rx.hdr.lenHi s.rx.hdr.lenLo ≠ 0 →
        s'.rx = { s.rx with
          hdr := { s.rx.hdr with crc := b }
          len := joinBE16 s.rx.hdr.lenHi s.rx.hdr.lenLo
          state := .data, index := 0, dcrc := 0xFFFF
          keep := decide ((joinBE16 s.rx.hdr.lenHi s.rx.hdr.lenLo).toNat ≤ s.build.maxPayload), buf := [] } ∧
        { s'.cnt with framesTx := s.cnt.framesTx } = s.cnt ∧ s'.inq = s.inq)

/-- OCTET in DATA (R198, R199): payload octets are stored unless the frame is too long, the two checksum octets
follow, and the last one completes the frame, counting it and a payload that failed. -/
def Obligations.OctetCollectsAndChecksThePayload : Prop :=
  ∀ (s : State) (t : Time) (b : Byte), Quiet t s → s.rx.state = .data → s.rx.index.toNat ≤ s.rx.len.toNat + 1 →
    ∃ s', exec (.octet t b) s = .next s' ∧ s'.timing.rxLast = t ∧
      (s.rx.index.toNat < s.rx.len.toNat →
        s'.rx = { s.rx with
          index := s.rx.index + 1, dcrc := crc16Step b s.rx.dcrc
          buf := if s.rx.keep then s.rx.buf ++ [b] else s.rx.buf } ∧
        { s'.cnt with framesTx := s.cnt.framesTx } = s.cnt ∧ s'.inq = s.inq) ∧
      (s.rx.index.toNat = s.rx.len.toNat →
        s'.rx = { s.rx with index := s.rx.index + 1, crcLo := b } ∧
        { s'.cnt with framesTx := s.cnt.framesTx } = s.cnt ∧ s'.inq = s.inq) ∧
      (s.rx.index.toNat = s.rx.len.toNat + 1 →
        (let ok := s.rx.keep && decide (joinLE16 s.rx.crcLo b = ~~~ s.rx.dcrc)
         (scan s.build.maxPayload s.rx b).frame = some { tag := s.rx.hdr.type, body :=
          { dest := s.rx.hdr.dest, src := s.rx.hdr.src, len := s.rx.len,
            payload := if ok then s.rx.buf else [], payloadOk := ok } }) ∧
        s'.rx = { s.rx with index := s.rx.index + 1, crcHi := b, state := .hunt } ∧
        s'.cnt.framesRx = s.cnt.framesRx + 1 ∧
        s'.cnt.oversize = (if s.rx.keep then s.cnt.oversize else s.cnt.oversize + 1) ∧
        s'.cnt.payloadCrc =
          (if s.rx.keep = true ∧ joinLE16 s.rx.crcLo b ≠ ~~~ s.rx.dcrc then s.cnt.payloadCrc + 1
           else s.cnt.payloadCrc))

/-- The round trip that the spec derives as R162: the octets of an encoded frame, each less than `T_FRAME_ABORT`
after the last, complete exactly one frame: none before the last octet, and with it the frame that was encoded,
intact. -/
def Obligations.ReceiverDecodesWhatTheEncoderSends : Prop :=
  ∀ (s : State) (ty dest src : Byte) (p : Octets) (events : List (Time × Byte)) (last : Time × Byte),
    s.cfgValid = true → s.rx.state = .hunt → p.length ≤ s.build.maxPayload → s.build.maxPayload ≤ 65535 →
    events.map Prod.snd ++ [last.2] = encodeFrame ty dest src p →
    PromptOctets s.timing.now s.tFrameAbort (events ++ [last]) →
    ∃ s1, execAll (octetInstrs events) s = .next s1 ∧ s1.cnt.framesRx = s.cnt.framesRx ∧
      s1.cnt.hdrCrc = s.cnt.hdrCrc ∧ s1.cnt.frameAbort = s.cnt.frameAbort ∧ Quiet last.1 s1 ∧
      (scan s1.build.maxPayload s1.rx last.2).frame = some { tag := ty, body :=
        { dest := dest, src := src, len := BitVec.ofNat 16 p.length, payload := p, payloadOk := true } } ∧
      (scan s1.build.maxPayload s1.rx last.2).counted = none ∧
      ∃ s2, exec (.octet last.1 last.2) s1 = .next s2 ∧ s2.cnt.framesRx = s.cnt.framesRx + 1 ∧ s2.rx.state = .hunt

/-- A data frame not expecting a reply, received octet by octet in IDLE, reaches `INQ` exactly as it was sent
when it is addressed to this station or to all, and there is room; the station stays in IDLE. -/
def Obligations.DataFrameReceivedInIdleIsDelivered : Prop :=
  ∀ (s : State) (dest src : Byte) (p : Octets) (events : List (Time × Byte)),
    s.Inv → s.cfgValid = true → s.ring.state = .idle → s.rx.state = .hunt →
    1 ≤ p.length → p.length ≤ s.build.maxPayload → s.inq.length < s.build.inqCap →
    (dest = s.cfg.thisStation ∨ dest = 255) →
    events.map Prod.snd = encodeFrame 6 dest src p →
    PromptOctets s.timing.now s.tFrameAbort events →
    ∃ s', execAll (octetInstrs events) s = .next s' ∧ s'.inq = s.inq ++ [{ payload := p, src := src }] ∧
      s'.ring = s.ring ∧ s'.lineTx = s.lineTx ∧ s'.outq = s.outq

/-! ## ENQUEUE, DEQUEUE, ANSWER, NO_ANSWER -/

/-- ENQUEUE (R370): the result code, the queue and the counter; in all else the step is that of a tick on the
queue so extended, which in USE_TOKEN may already send its oldest entry. -/
def Obligations.EnqueueQueuesOrRefuses : Prop :=
  ∀ (s : State) (t : Time) (p : Octets) (d : Addr) (er : Bool), s.cfgValid = true → s.timing.now ≤ t →
    let tooLong := s.build.maxPayload < p.length
    let full := s.build.outqCap ≤ s.outq.length
    ∃ s', exec (.tick t) { s with
        outq := if tooLong ∨ full then s.outq else s.outq ++ [{ payload := p, dest := d, expectsReply := er }]
        cnt := { s.cnt with
          outqReject := if ¬ tooLong ∧ full then s.cnt.outqReject + 1 else s.cnt.outqReject } } = .next s' ∧
      exec (.enqueue t p d er) s = .next { s' with
        responses := s.responses ++ [{ port := .hostOut, entry := none, result :=
          if tooLong then .tooLong else if full then .full else .ok }] }

/-- An entry that ENQUEUE brings to an empty queue in USE_TOKEN is sent in the same step (R370, R268), and so is
a reply that ANSWER supplies under MAXIMUM semantics (R385, R286), when the turnaround is over. -/
def Obligations.HostPayloadsAreSentInTheSameStep : Prop :=
  (∀ (s : State) (t : Time) (p : Octets) (d : Addr), Quiet t s → s.ring.state = .useToken → s.outq = [] →
    p.length ≤ s.build.maxPayload → 1 ≤ s.build.outqCap →
    ¬ s.cfg.tUsageTimeout.setWidth 64 ≤ t - s.timing.tsUsage →
    s.ring.frameCount.toNat < s.cfg.nmaxInfoFrames.toNat → s.tTurnaround ≤ t - s.timing.rxLast →
    exec (.enqueue t p d false) s = .next { s with
      timing := { s.timing with now := t }
      ring := { s.ring with frameCount := s.ring.frameCount + 1 }
      cnt := { s.cnt with framesTx := s.cnt.framesTx + 1 }
      lineTx := s.lineTx ++ [{ time := t, octets := encodeFrame 6 d s.cfg.thisStation p }]
      responses := s.responses ++ [{ port := .hostOut, result := .ok, entry := none }] }) ∧
  (∀ (s : State) (t : Time) (p : Octets), Quiet t s → s.ring.state = .answerDataRequest →
    s.ring.replyValid = false → p.length ≤ s.build.maxPayload → s.cfg.replyDelaySemantics = .maximum →
    s.tTurnaround ≤ t - s.timing.rxLast →
    exec (.answer t p) s = .next { s with
      timing := { s.timing with now := t, tsNoToken := t }
      ring := { s.ring with state := .idle, replyPayload := p, replyValid := false, idleRespKind := .none }
      cnt := { s.cnt with framesTx := s.cnt.framesTx + 1 }
      lineTx := s.lineTx ++ [{ time := t, octets := encodeFrame 6 s.ring.replyTo s.cfg.thisStation p }]
      responses := s.responses ++ [{ port := .hostAnswer, result := .ok, entry := none }] })

/-- DEQUEUE (R380): the oldest inbound entry is returned and removed, or EMPTY is returned; in all else the step
is that of a tick. -/
def Obligations.DequeueReturnsTheOldestEntry : Prop :=
  ∀ (s : State) (t : Time), s.cfgValid = true → s.timing.now ≤ t →
    ∃ s', exec (.tick t) s = .next s' ∧
      exec (.dequeue t) s = .next { s' with
        inq := s.inq.tail
        responses := s.responses ++ [{ port := .hostIn, entry := s.inq.head?, result :=
          if s.inq = [] then .empty else .ok }] }

/-- ANSWER (R385): NOT_EXPECTED, then TOO_LONG, each changing nothing; otherwise the reply is held. In all else the
step is that of a tick, which may already send the reply so held. -/
def Obligations.AnswerIsHeldOrRefused : Prop :=
  ∀ (s : State) (t : Time) (p : Octets), s.cfgValid = true → s.timing.now ≤ t →
    let expected := s.ring.state = .answerDataRequest ∧ s.ring.replyValid = false
    (expected → p.length ≤ s.build.maxPayload →
      ∃ s', exec (.tick t) { s with ring := { s.ring with replyPayload := p, replyValid := true } } = .next s' ∧
        exec (.answer t p) s = .next { s' with
          responses := s.responses ++ [{ port := .hostAnswer, result := .ok, entry := none }] }) ∧
    (¬ (expected ∧ p.length ≤ s.build.maxPayload) →
      ∃ s', exec (.tick t) s = .next s' ∧
        exec (.answer t p) s = .next { s' with
          responses := s.responses ++ [{ port := .hostAnswer, entry := none, result :=
            if expected then .tooLong else .notExpected }] })

/-- NO_ANSWER (R387): IDLE at once with nothing sent while a reply is expected; otherwise NOT_EXPECTED, and the
step is that of a tick. -/
def Obligations.NoAnswerReturnsToIdle : Prop :=
  (∀ (s : State) (t : Time), Quiet t s → s.ring.state = .answerDataRequest → s.ring.replyValid = false →
    exec (.noAnswer t) s = .next { s with
      timing := { s.timing with now := t, tsNoToken := t }
      ring := { s.ring with state := .idle, idleRespKind := .none }
      responses := s.responses ++ [{ port := .hostAnswer, result := .ok, entry := none }] }) ∧
  (∀ (s : State) (t : Time), s.cfgValid = true → s.timing.now ≤ t →
    ¬ (s.ring.state = .answerDataRequest ∧ s.ring.replyValid = false) →
    ∃ s', exec (.tick t) s = .next s' ∧
      exec (.noAnswer t) s = .next { s' with
        responses := s.responses ++ [{ port := .hostAnswer, result := .notExpected, entry := none }] })

/-! ## Received frame types -/

/-- TOKEN in every state (R309). -/
def Obligations.TokenFrameMeaning : Prop :=
  ∀ (f : Received) (s : State),
    (s.ring.state = .idle → f.dest = s.cfg.thisStation →
      exec (.token f) s = .next { s with
        ring := { s.ring with state := .useToken, frameCount := 0 }
        timing := { s.timing with tsUsage := s.timing.now } }) ∧
    (s.ring.state = .waitForReply →
      exec (.token f) s = .next { s with
        cnt := { s.cnt with anomaly := s.cnt.anomaly + 1 }
        ring := { s.ring with state := .idle, idleRespKind := .none }
        timing := { s.timing with tsNoToken := s.timing.now } }) ∧
    (s.ring.state ≠ .waitForReply → ¬ (s.ring.state = .idle ∧ f.dest = s.cfg.thisStation) →
      exec (.token f) s = .next s)

/-- PFM in every state (R310). -/
def Obligations.PfmFrameMeaning : Prop :=
  ∀ (f : Received) (s : State),
    (s.ring.state = .idle → f.dest = s.cfg.thisStation →
      exec (.pfm f) s = .next { s with
        ring := { s.ring with idleRespKind := .rpfm, idleRespDest := f.src, idleRespPayload := [] } }) ∧
    (s.ring.state = .waitForReply →
      exec (.pfm f) s = .next { s with
        cnt := { s.cnt with anomaly := s.cnt.anomaly + 1 }
        ring := { s.ring with state := .idle, idleRespKind := .none }
        timing := { s.timing with tsNoToken := s.timing.now } }) ∧
    (s.ring.state ≠ .waitForReply → ¬ (s.ring.state = .idle ∧ f.dest = s.cfg.thisStation) →
      exec (.pfm f) s = .next s)

/-- RPFM in every state (R311, R292). -/
def Obligations.RpfmFrameMeaning : Prop :=
  ∀ (f : Received) (s : State),
    (s.ring.state = .pollForMaster → f.dest = s.cfg.thisStation →
      exec (.rpfm f) s = .next { s with
        ring := { s.ring with nextStation := f.src, soleMaster := false, state := .passToken } }) ∧
    (s.ring.state = .waitForReply →
      exec (.rpfm f) s = .next { s with
        cnt := { s.cnt with anomaly := s.cnt.anomaly + 1 }
        ring := { s.ring with state := .idle, idleRespKind := .none }
        timing := { s.timing with tsNoToken := s.timing.now } }) ∧
    (s.ring.state ≠ .waitForReply → ¬ (s.ring.state = .pollForMaster ∧ f.dest = s.cfg.thisStation) →
      exec (.rpfm f) s = .next s)

/-- TEST_REQUEST in every state (R312). -/
def Obligations.TestRequestFrameMeaning : Prop :=
  ∀ (f : Received) (s : State),
    (s.ring.state = .idle → f.dest = s.cfg.thisStation →
      exec (.testRequest f) s = .next { s with
        ring := { s.ring with
          idleRespKind := .testResponse, idleRespDest := f.src
          idleRespPayload := if f.payloadOk = true then f.payload else [] } }) ∧
    (s.ring.state = .waitForReply →
      exec (.testRequest f) s = .next { s with
        cnt := { s.cnt with anomaly := s.cnt.anomaly + 1 }
        ring := { s.ring with state := .idle, idleRespKind := .none }
        timing := { s.timing with tsNoToken := s.timing.now } }) ∧
    (s.ring.state ≠ .waitForReply → ¬ (s.ring.state = .idle ∧ f.dest = s.cfg.thisStation) →
      exec (.testRequest f) s = .next s)

/-- TEST_RESPONSE, UNRECOGNIZED and VENDOR frames in every state (R313, R316, R317): ignored, but in WAIT_FOR_REPLY
accepted as the reply, and a good payload delivered if there is room. -/
def Obligations.OtherTagsAreRepliesOrIgnored : Prop :=
  ∀ (f : Received) (tag : Byte) (s : State),
    let accepted : State :=
      if f.len ≠ 0 ∧ f.payloadOk = true then
        if s.build.inqCap ≤ s.inq.length then { s with
          cnt := { s.cnt with inqOverflow := s.cnt.inqOverflow + 1 }
          ring := { s.ring with state := .doneWithToken } }
        else { s with
          inq := s.inq ++ [{ payload := f.payload, src := f.src }]
          ring := { s.ring with state := .doneWithToken } }
      else { s with ring := { s.ring with state := .doneWithToken } }
    let outcome : State := if s.ring.state = .waitForReply then accepted else s
    exec (.testResponse f) s = .next outcome ∧
    (0x07 ≤ tag → tag ≤ 0x7F → exec (.unrecognized tag f) s = .next outcome) ∧
    (0x80 ≤ tag → exec (.vendor tag f) s = .next outcome)

/-- The reject-list rule (R147, R293, R294): in WAIT_FOR_REPLY the four tags of the reject set surrender the
token and are counted; a frame of any of the 252 other tags is an accepted reply, whatever its destination and
source, and a good payload is delivered if there is room and counted as an overflow if there is none. -/
def Obligations.RejectListRule : Prop :=
  ∀ (tag : Byte) (body : Received) (s : State), s.ring.state = .waitForReply →
    exec (Instr.ofFrame { tag := tag, body := body }) s = .next (
      let done : State := { s with ring := { s.ring with state := .doneWithToken } }
      if tag = 0 ∨ tag = 1 ∨ tag = 2 ∨ tag = 3 then
        { s with
          cnt := { s.cnt with anomaly := s.cnt.anomaly + 1 }
          ring := { s.ring with state := .idle, idleRespKind := .none }
          timing := { s.timing with tsNoToken := s.timing.now } }
      else if body.len ≠ 0 ∧ body.payloadOk = true then
        if s.build.inqCap ≤ s.inq.length then
          { done with cnt := { s.cnt with inqOverflow := s.cnt.inqOverflow + 1 } }
        else { done with inq := s.inq ++ [{ payload := body.payload, src := body.src }] }
      else done)

/-- DER in IDLE and in the states that ignore it (R314). -/
def Obligations.DerFrameMeaning : Prop :=
  ∀ (f : Received) (s : State),
    let delivered :=
      if f.len ≠ 0 ∧ f.payloadOk = true then
        if s.build.inqCap ≤ s.inq.length then { s with cnt := { s.cnt with inqOverflow := s.cnt.inqOverflow + 1 } }
        else { s with inq := s.inq ++ [{ payload := f.payload, src := f.src }] }
      else s
    (s.ring.state = .idle → f.dest = s.cfg.thisStation →
      exec (.der f) s = .next { delivered with
        ring := { s.ring with state := .answerDataRequest, replyTo := f.src, replyValid := false }
        timing := { s.timing with tsReplyDelay := s.timing.now } }) ∧
    (s.ring.state = .idle → f.dest ≠ s.cfg.thisStation → f.dest = 255 → exec (.der f) s = .next delivered) ∧
    (s.ring.state = .idle → f.dest ≠ s.cfg.thisStation → f.dest ≠ 255 → exec (.der f) s = .next s) ∧
    (s.ring.state = .waitForReply →
      exec (.der f) s = .next { delivered with ring := { s.ring with state := .doneWithToken } }) ∧
    (s.ring.state ≠ .idle → s.ring.state ≠ .waitForReply → exec (.der f) s = .next s)

/-- DNER in IDLE and in the states that ignore it (R315). -/
def Obligations.DnerFrameMeaning : Prop :=
  ∀ (f : Received) (s : State),
    let delivered :=
      if f.len ≠ 0 ∧ f.payloadOk = true then
        if s.build.inqCap ≤ s.inq.length then { s with cnt := { s.cnt with inqOverflow := s.cnt.inqOverflow + 1 } }
        else { s with inq := s.inq ++ [{ payload := f.payload, src := f.src }] }
      else s
    (s.ring.state = .idle → (f.dest = s.cfg.thisStation ∨ f.dest = 255) → exec (.dner f) s = .next delivered) ∧
    (s.ring.state = .idle → f.dest ≠ s.cfg.thisStation → f.dest ≠ 255 → exec (.dner f) s = .next s) ∧
    (s.ring.state = .waitForReply →
      exec (.dner f) s = .next { delivered with ring := { s.ring with state := .doneWithToken } }) ∧
    (s.ring.state ≠ .idle → s.ring.state ≠ .waitForReply → exec (.dner f) s = .next s)

/-! ## Whole-machine rules -/

/-- The state after reset satisfies the range invariants that the spec derives as R90; that it is this state is
the model's choice (log entry 6). -/
def Obligations.ResetSatisfiesTheInvariant : Prop :=
  State.reset.Inv

/-- Every step keeps the range invariants that the spec derives as R90, and those of the receiver's registers
(R60, R65, R67). -/
def Obligations.EveryStepKeepsTheInvariant : Prop :=
  ∀ s s' : State, s.Inv → step s = .next s' → s'.Inv

/-- A step transmits at most one frame (the spec's own inference, R222: "At most one `Tx` happens per step"),
only when the turnaround time has passed since the last received octet (R221), stamped with its own time. -/
def Obligations.AtMostOneGuardedTransmissionPerStep : Prop :=
  ∀ s s' : State, step s = .next s' →
    s'.lineTx = s.lineTx ∨
    ∃ x, s'.lineTx = s.lineTx ++ [x] ∧ x.time = s'.timing.now ∧ s'.tTurnaround ≤ s'.timing.now - s'.timing.rxLast

/-- R161: what the block sends is the encoding of a frame it originates itself. -/
def Obligations.TransmittedFramesAreItsOwn : Prop :=
  ∀ (s s' : State) (x : Transmission), s.Inv → step s = .next s' → s'.lineTx = s.lineTx ++ [x] →
    ∃ (ty dest : Byte) (p : Octets), x.octets = encodeFrame ty dest s'.cfg.thisStation p ∧
      p.length ≤ s'.build.maxPayload ∧
      (((ty = 0 ∨ ty = 1 ∨ ty = 2) ∧ p = []) ∨ ty = 4 ∨ ty = 5 ∨ ty = 6)

/-- R42, R44: nothing but RESET writes `CFG`, `CFG_VALID` or the intervals derived from it, and nothing at all
writes the build parameters. -/
def Obligations.OnlyResetWritesTheConfiguration : Prop :=
  ∀ (i : Instr) (s s' : State), exec i s = .next s' →
    s'.build = s.build ∧
    ((∀ t cfg, i ≠ .reset t cfg) →
      s'.cfg = s.cfg ∧ s'.cfgValid = s.cfgValid ∧ s'.tFrameAbort = s.tFrameAbort ∧ s'.tTurnaround = s.tTurnaround)

/-- R255: no rule enters NO_TOKEN. -/
def Obligations.NoStepEntersNoToken : Prop :=
  ∀ s s' : State, step s = .next s' → s'.ring.state = .noToken → s.ring.state = .noToken

/-- From IDLE the token is taken up only when a TOKEN frame to this station completes, a DER frame to this
station leads to ANSWER_DATA_REQUEST, and the only other exit is to POLL_FOR_MASTER (the spec's own inference,
R304). -/
def Obligations.IdleTakesTheTokenOnlyFromATokenFrame : Prop :=
  ∀ (i : Instr) (port : Port) (t : Time) (s s' : State), admissible i = some (port, t) → s.ring.state = .idle →
    exec i s = .next s' → s'.ring.state ≠ .idle →
    (∃ b f, i = .octet t b ∧ (scan s.build.maxPayload s.rx b).frame = some f ∧ f.body.dest = s.cfg.thisStation ∧
      (f.tag = 0 ∧ s'.ring.state = .useToken ∨ f.tag = 5 ∧ s'.ring.state = .answerDataRequest)) ∨
    (s'.ring.state = .pollForMaster ∧ s.ring.idleRespKind = .none ∧ s'.timing.tsNoToken = t)

/-- What an event other than RESET does to `INQ`: DEQUEUE takes the oldest entry, a completed good frame on one of
the three paths adds its payload, and nothing else changes it (the spec's own inference, R376: "Payloads reach
`INQ` by exactly three paths"). -/
def Obligations.InboundQueueChangesOnThreePathsOnly : Prop :=
  ∀ (i : Instr) (port : Port) (t : Time) (s s' : State), admissible i = some (port, t) → exec i s = .next s' →
    s'.inq = s.inq ∨ (i = .dequeue t ∧ s'.inq = s.inq.tail) ∨
    ∃ b f, i = .octet t b ∧ (scan s.build.maxPayload s.rx b).frame = some f ∧
      f.body.len ≠ 0 ∧ f.body.payloadOk = true ∧
      s'.inq = s.inq ++ [{ payload := f.body.payload, src := f.body.src }] ∧
      (s.ring.state = .idle ∧ (f.tag = 5 ∨ f.tag = 6) ∧ (f.body.dest = s.cfg.thisStation ∨ f.body.dest = 255) ∨
       s.ring.state = .waitForReply ∧ f.tag ∉ rejectSet)

/-- R371: an event other than RESET drains `OUTQ` only in USE_TOKEN, one entry per step, oldest first, below the
frame limit of the hold, each entry sent as it is removed. -/
def Obligations.OutboundQueueIsDrainedOnlyInUseToken : Prop :=
  ∀ (i : Instr) (port : Port) (t : Time) (s s' : State), admissible i = some (port, t) → exec i s = .next s' →
    ∃ queued : List OutEntry,
      (queued = s.outq ∨ ∃ p d er, i = .enqueue t p d er ∧ s.outq.length < s.build.outqCap ∧
        queued = s.outq ++ [{ payload := p, dest := d, expectsReply := er }]) ∧
      (s'.outq = queued ∨
       s.ring.state = .useToken ∧ s.ring.frameCount.toNat < s.cfg.nmaxInfoFrames.toNat ∧
        ∃ e ty, queued = e :: s'.outq ∧ (ty = 5 ∨ ty = 6) ∧
          s'.lineTx = s.lineTx ++ [{ time := t, octets := encodeFrame ty e.dest s.cfg.thisStation e.payload }])

/-- In one step the contents of one queue do not affect what the other then holds; of this, R391 says that no rule
moves an entry from one to the other and that the fullness of one never affects the other (the spec's own inference).
It is about one step, not a run: over several steps an entry of `OUTQ` that expects a reply leads to WAIT_FOR_REPLY,
where the reply may enter `INQ`. -/
def Obligations.QueuesAreIndependent : Prop :=
  ∀ (i : Instr) (s : State) (inq : List InEntry) (outq : List OutEntry),
    ∃ s0 s1 s2, exec i s = .next s0 ∧ exec i { s with inq := inq } = .next s1 ∧
      exec i { s with outq := outq } = .next s2 ∧ s1.outq = s0.outq ∧ s2.inq = s0.inq

/-- No rule reads a counter (R70, R410): two runs that differ only in the counters stay equal in all else. -/
def Obligations.CountersInfluenceNothing : Prop :=
  ∀ (i : Instr) (s : State) (cnt : Counters),
    ∃ s1 s2, exec i s = .next s1 ∧ exec i { s with cnt := cnt } = .next s2 ∧ { s1 with cnt := s2.cnt } = s2

/-- Nothing but STATUS reads `SOLE_MASTER` (R51): two runs that differ only in it stay equal in all
else. -/
def Obligations.SoleMasterInfluencesNothing : Prop :=
  ∀ (i : Instr) (s : State) (v : Bool),
    ∃ s1 s2, exec i s = .next s1 ∧ exec i { s with ring := { s.ring with soleMaster := v } } = .next s2 ∧
      { s1 with ring := { s1.ring with soleMaster := s2.ring.soleMaster } } = s2

/-- The discovery sweep (the spec's own inference, R302: "all `CFG.Nmax_master` other addresses have been probed").
The successors of this station (R300) come back to it after `Nmax_master` steps and visit every other address of the
ring exactly once before. And a POLL_FOR_MASTER entered afresh, in which no frame arrives, run by ticks of which the
first finds the turnaround over, each next one comes `T_poll_timeout` or more later and the last one before the
overall timeout of R280, sends one PFM to each of these addresses, in this order, and then promotes this station to
sole master (R284). -/
def Obligations.SweepProbesEveryOtherAddressOnce : Prop :=
  (∀ cfg : Cfg, validCfg cfg = true →
    let probe := fun k => (succ cfg)^[k] (succ cfg cfg.thisStation)
    probe cfg.nmaxMaster.toNat = cfg.thisStation ∧
    (∀ k < cfg.nmaxMaster.toNat, probe k ≠ cfg.thisStation ∧ probe k ≤ cfg.nmaxMaster) ∧
    (∀ a : Addr, a ≤ cfg.nmaxMaster → a ≠ cfg.thisStation → ∃ k < cfg.nmaxMaster.toNat, probe k = a ∧
      ∀ j < cfg.nmaxMaster.toNat, probe j = a → j = k)) ∧
  (∀ (s : State) (t : Nat → Time),
    let n := s.cfg.nmaxMaster.toNat
    let probe := fun k => (succ s.cfg)^[k] (succ s.cfg s.cfg.thisStation)
    s.cfgValid = true → validCfg s.cfg = true → s.rx.state = .hunt →
    s.ring.state = .pollForMaster → s.ring.pollStation = succ s.cfg s.cfg.thisStation → s.ring.pfmSent = false →
    s.timing.tsNoToken ≤ s.timing.now → s.timing.rxLast ≤ s.timing.now →
    s.timing.now ≤ t 0 → s.tTurnaround ≤ t 0 - s.timing.rxLast →
    (∀ k < n, (t k).toNat + s.cfg.tPollTimeout.toNat ≤ (t (k + 1)).toNat) →
    (t n).toNat < s.timing.tsNoToken.toNat + s.cfg.tNoToken.toNat →
    ∃ s', execAll ((List.range (n + 1)).map fun k => .tick (t k)) s = .next s' ∧
      s'.lineTx = s.lineTx ++ (List.range n).map (fun k =>
        { time := t k, octets := encodeFrame 1 (probe k) s.cfg.thisStation [] }) ∧
      s'.ring = { s.ring with
        state := .useToken, frameCount := 0, pollStation := s.cfg.thisStation, pfmSent := false
        soleMaster := true, nextStation := s.cfg.thisStation } ∧
      s'.timing.now = t n ∧ s'.timing.tsUsage = t n ∧ s'.rx = s.rx ∧ s'.outq = s.outq ∧ s'.inq = s.inq)

/-- Forward progress (the spec's own inference, R321): a tick that comes after every deadline of the configuration
leaves the state, whichever it is, unless IDLE owes a response, which it then sends. -/
def Obligations.TickAfterEveryDeadlineLeavesTheState : Prop :=
  ∀ (s : State) (t : Time), s.Inv → s.cfgValid = true →
    s.timing.now.toNat + s.cfg.tNoToken.toNat ≤ t.toNat → s.timing.now.toNat + s.cfg.tReplyTimeout.toNat ≤ t.toNat →
    s.timing.now.toNat + s.cfg.tReplyDelay.toNat ≤ t.toNat → s.timing.now.toNat + s.cfg.tUsageTimeout.toNat ≤ t.toNat →
    s.timing.now.toNat + s.tTurnaround.toNat ≤ t.toNat →
    ∃ s', exec (.tick t) s = .next s' ∧
      (s'.ring.state ≠ s.ring.state ∨
       s.ring.state = .idle ∧ s.ring.idleRespKind ≠ .none ∧ s'.ring.idleRespKind = .none ∧
        s'.lineTx.length = s.lineTx.length + 1)
end

