-- ==== Sys2Proof/Laws/Decode.lean ====
section
/-! SUPPORT. The operand readers undo the operand writers. -/
namespace Sys2Proof

@[simp] theorem takeU16_putU16 (v : BitVec 16) (rest : Octets) : takeU16 (putU16 v ++ rest) = some (v, rest) := by
  simp only [putU16, takeU16, List.cons_append, List.nil_append, Option.some.injEq, Prod.mk.injEq, and_true]
  apply BitVec.eq_of_getLsbD_eq
  intro i hi
  simp only [BitVec.getLsbD_append, BitVec.getLsbD_extractLsb']
  repeat' split
  all_goals
    rw [decide_eq_true (by omega), Bool.true_and]
    congr 1
    omega

@[simp] theorem takeU32_putU32 (v : BitVec 32) (rest : Octets) : takeU32 (putU32 v ++ rest) = some (v, rest) := by
  simp only [putU32, takeU32, List.cons_append, List.nil_append, Option.some.injEq, Prod.mk.injEq, and_true]
  apply BitVec.eq_of_getLsbD_eq
  intro i hi
  simp only [BitVec.getLsbD_append, BitVec.getLsbD_extractLsb']
  repeat' split
  all_goals
    rw [decide_eq_true (by omega), Bool.true_and]
    congr 1
    omega

@[simp] theorem takeTime_putTime (t : Time) (rest : Octets) : takeTime (putTime t ++ rest) = some (t, rest) := by
  simp only [putTime, takeTime, List.cons_append, List.nil_append, Option.some.injEq, Prod.mk.injEq, and_true]
  apply BitVec.eq_of_getLsbD_eq
  intro i hi
  simp only [BitVec.getLsbD_append, BitVec.getLsbD_extractLsb']
  repeat' split
  all_goals
    rw [decide_eq_true (by omega), Bool.true_and]
    congr 1
    omega

/-- The length field's octets, put together again (R110). -/
@[simp] theorem joinBE16_split (w : BitVec 16) : joinBE16 (hiByte w) (loByte w) = w := by
  simp only [joinBE16, hiByte, loByte]
  ext i hi
  simp
  by_cases h : i < 8
  · simp [h, ← BitVec.getLsbD_eq_getElem]
  · simp [h]
    have h1 : i - 8 < 8 := by omega
    have h2 : 8 + (i - 8) = i := by omega
    simp [h1, h2, ← BitVec.getLsbD_eq_getElem]

/-- The payload checksum's octets, put together again (R110). -/
@[simp] theorem joinLE16_split (w : BitVec 16) : joinLE16 (loByte w) (hiByte w) = w := by
  simp only [joinLE16]
  rw [BitVec.or_comm]
  exact joinBE16_split w

/-- Every tag is kept by its type (R144 to R146). -/
theorem FrameType.ofTag_tag (tag : Byte) : (FrameType.ofTag tag).tag = tag := by
  unfold FrameType.ofTag
  repeat' split
  all_goals simp_all [FrameType.tag]

/-- A tag is well-formed for UNRECOGNIZED exactly when the decoder classifies it so (R145). -/
theorem unrecognizedTag_iff_ofTag (tag : Byte) :
    unrecognizedTag tag = true ↔ FrameType.ofTag tag = .unrecognized tag := by
  unfold unrecognizedTag assignedTags FrameType.ofTag
  repeat' split
  all_goals simp_all

/-- A tag is well-formed for VENDOR exactly when the decoder classifies it so (R146). -/
theorem vendorTag_iff_ofTag (tag : Byte) :
    vendorTag tag = true ↔ FrameType.ofTag tag = .vendor tag := by
  unfold vendorTag assignedTags FrameType.ofTag
  repeat' split
  all_goals simp_all

/-- The unassigned tags are 0x07..0x7F (R145). -/
theorem unrecognizedTag_iff_range (tag : Byte) :
    unrecognizedTag tag = true ↔ 0x07 ≤ tag ∧ tag ≤ 0x7F := by
  simp only [unrecognizedTag, assignedTags, Bool.and_eq_true, decide_eq_true_eq, List.mem_cons, List.not_mem_nil,
    not_or, or_false, ← BitVec.toNat_inj, BitVec.le_def, BitVec.lt_def]
  simp
  omega

/-- The vendor-private tags are 0x80..0xFF (R146). -/
theorem vendorTag_iff_range (tag : Byte) : vendorTag tag = true ↔ 0x80 ≤ tag := by
  simp only [vendorTag, assignedTags, Bool.and_eq_true, decide_eq_true_eq, List.mem_cons, List.not_mem_nil,
    not_or, or_false, ← BitVec.toNat_inj, BitVec.le_def]
  simp
  omega

end Sys2Proof
end

