-- ==== Sys2Proof/Laws/State.lean ====
section
/-! SUPPORT. One lemma per field of State for each named update, true by rfl, so that no later proof unfolds a
record update. -/
namespace Sys2Proof.Machine

@[simp] theorem count_build (c : Counter) (s : State) : (count c s).build = s.build := rfl
@[simp] theorem count_cfg (c : Counter) (s : State) : (count c s).cfg = s.cfg := rfl
@[simp] theorem count_cfgValid (c : Counter) (s : State) : (count c s).cfgValid = s.cfgValid := rfl
@[simp] theorem count_tFrameAbort (c : Counter) (s : State) : (count c s).tFrameAbort = s.tFrameAbort := rfl
@[simp] theorem count_tTurnaround (c : Counter) (s : State) : (count c s).tTurnaround = s.tTurnaround := rfl
@[simp] theorem count_ring (c : Counter) (s : State) : (count c s).ring = s.ring := rfl
@[simp] theorem count_timing (c : Counter) (s : State) : (count c s).timing = s.timing := rfl
@[simp] theorem count_rx (c : Counter) (s : State) : (count c s).rx = s.rx := rfl
@[simp] theorem count_outq (c : Counter) (s : State) : (count c s).outq = s.outq := rfl
@[simp] theorem count_inq (c : Counter) (s : State) : (count c s).inq = s.inq := rfl
@[simp] theorem count_cnt (c : Counter) (s : State) : (count c s).cnt = s.cnt.bump c := rfl
@[simp] theorem count_inbox (c : Counter) (s : State) : (count c s).inbox = s.inbox := rfl
@[simp] theorem count_lineTx (c : Counter) (s : State) : (count c s).lineTx = s.lineTx := rfl
@[simp] theorem count_responses (c : Counter) (s : State) : (count c s).responses = s.responses := rfl

@[simp] theorem arm_build (tm : Timer) (s : State) : (arm tm s).build = s.build := rfl
@[simp] theorem arm_cfg (tm : Timer) (s : State) : (arm tm s).cfg = s.cfg := rfl
@[simp] theorem arm_cfgValid (tm : Timer) (s : State) : (arm tm s).cfgValid = s.cfgValid := rfl
@[simp] theorem arm_tFrameAbort (tm : Timer) (s : State) : (arm tm s).tFrameAbort = s.tFrameAbort := rfl
@[simp] theorem arm_tTurnaround (tm : Timer) (s : State) : (arm tm s).tTurnaround = s.tTurnaround := rfl
@[simp] theorem arm_ring (tm : Timer) (s : State) : (arm tm s).ring = s.ring := rfl
@[simp] theorem arm_timing (tm : Timer) (s : State) : (arm tm s).timing = s.timing.set tm s.timing.now := rfl
@[simp] theorem arm_rx (tm : Timer) (s : State) : (arm tm s).rx = s.rx := rfl
@[simp] theorem arm_outq (tm : Timer) (s : State) : (arm tm s).outq = s.outq := rfl
@[simp] theorem arm_inq (tm : Timer) (s : State) : (arm tm s).inq = s.inq := rfl
@[simp] theorem arm_cnt (tm : Timer) (s : State) : (arm tm s).cnt = s.cnt := rfl
@[simp] theorem arm_inbox (tm : Timer) (s : State) : (arm tm s).inbox = s.inbox := rfl
@[simp] theorem arm_lineTx (tm : Timer) (s : State) : (arm tm s).lineTx = s.lineTx := rfl
@[simp] theorem arm_responses (tm : Timer) (s : State) : (arm tm s).responses = s.responses := rfl

@[simp] theorem setRingState_build (st : RingState) (s : State) : (setRingState st s).build = s.build := rfl
@[simp] theorem setRingState_cfg (st : RingState) (s : State) : (setRingState st s).cfg = s.cfg := rfl
@[simp] theorem setRingState_cfgValid (st : RingState) (s : State) : (setRingState st s).cfgValid = s.cfgValid := rfl
@[simp] theorem setRingState_tFrameAbort (st : RingState) (s : State) : (setRingState st s).tFrameAbort = s.tFrameAbort := rfl
@[simp] theorem setRingState_tTurnaround (st : RingState) (s : State) : (setRingState st s).tTurnaround = s.tTurnaround := rfl
@[simp] theorem setRingState_ring (st : RingState) (s : State) : (setRingState st s).ring = { s.ring with state := st } := rfl
@[simp] theorem setRingState_timing (st : RingState) (s : State) : (setRingState st s).timing = s.timing := rfl
@[simp] theorem setRingState_rx (st : RingState) (s : State) : (setRingState st s).rx = s.rx := rfl
@[simp] theorem setRingState_outq (st : RingState) (s : State) : (setRingState st s).outq = s.outq := rfl
@[simp] theorem setRingState_inq (st : RingState) (s : State) : (setRingState st s).inq = s.inq := rfl
@[simp] theorem setRingState_cnt (st : RingState) (s : State) : (setRingState st s).cnt = s.cnt := rfl
@[simp] theorem setRingState_inbox (st : RingState) (s : State) : (setRingState st s).inbox = s.inbox := rfl
@[simp] theorem setRingState_lineTx (st : RingState) (s : State) : (setRingState st s).lineTx = s.lineTx := rfl
@[simp] theorem setRingState_responses (st : RingState) (s : State) : (setRingState st s).responses = s.responses := rfl

@[simp] theorem emit_build (os : Octets) (s : State) : (emit os s).build = s.build := rfl
@[simp] theorem emit_cfg (os : Octets) (s : State) : (emit os s).cfg = s.cfg := rfl
@[simp] theorem emit_cfgValid (os : Octets) (s : State) : (emit os s).cfgValid = s.cfgValid := rfl
@[simp] theorem emit_tFrameAbort (os : Octets) (s : State) : (emit os s).tFrameAbort = s.tFrameAbort := rfl
@[simp] theorem emit_tTurnaround (os : Octets) (s : State) : (emit os s).tTurnaround = s.tTurnaround := rfl
@[simp] theorem emit_ring (os : Octets) (s : State) : (emit os s).ring = s.ring := rfl
@[simp] theorem emit_timing (os : Octets) (s : State) : (emit os s).timing = s.timing := rfl
@[simp] theorem emit_rx (os : Octets) (s : State) : (emit os s).rx = s.rx := rfl
@[simp] theorem emit_outq (os : Octets) (s : State) : (emit os s).outq = s.outq := rfl
@[simp] theorem emit_inq (os : Octets) (s : State) : (emit os s).inq = s.inq := rfl
@[simp] theorem emit_cnt (os : Octets) (s : State) : (emit os s).cnt = s.cnt := rfl
@[simp] theorem emit_inbox (os : Octets) (s : State) : (emit os s).inbox = s.inbox := rfl
@[simp] theorem emit_lineTx (os : Octets) (s : State) : (emit os s).lineTx = s.lineTx ++ [{ time := s.timing.now, octets := os }] := rfl
@[simp] theorem emit_responses (os : Octets) (s : State) : (emit os s).responses = s.responses := rfl

@[simp] theorem tx_build (ty dest : Byte) (p : Octets) (s : State) : (tx ty dest p s).build = s.build := rfl
@[simp] theorem tx_cfg (ty dest : Byte) (p : Octets) (s : State) : (tx ty dest p s).cfg = s.cfg := rfl
@[simp] theorem tx_cfgValid (ty dest : Byte) (p : Octets) (s : State) : (tx ty dest p s).cfgValid = s.cfgValid := rfl
@[simp] theorem tx_tFrameAbort (ty dest : Byte) (p : Octets) (s : State) : (tx ty dest p s).tFrameAbort = s.tFrameAbort := rfl
@[simp] theorem tx_tTurnaround (ty dest : Byte) (p : Octets) (s : State) : (tx ty dest p s).tTurnaround = s.tTurnaround := rfl
@[simp] theorem tx_ring (ty dest : Byte) (p : Octets) (s : State) : (tx ty dest p s).ring = s.ring := rfl
@[simp] theorem tx_timing (ty dest : Byte) (p : Octets) (s : State) : (tx ty dest p s).timing = s.timing := rfl
@[simp] theorem tx_rx (ty dest : Byte) (p : Octets) (s : State) : (tx ty dest p s).rx = s.rx := rfl
@[simp] theorem tx_outq (ty dest : Byte) (p : Octets) (s : State) : (tx ty dest p s).outq = s.outq := rfl
@[simp] theorem tx_inq (ty dest : Byte) (p : Octets) (s : State) : (tx ty dest p s).inq = s.inq := rfl
@[simp] theorem tx_cnt (ty dest : Byte) (p : Octets) (s : State) : (tx ty dest p s).cnt = s.cnt.bump .framesTx := rfl
@[simp] theorem tx_inbox (ty dest : Byte) (p : Octets) (s : State) : (tx ty dest p s).inbox = s.inbox := rfl
@[simp] theorem tx_lineTx (ty dest : Byte) (p : Octets) (s : State) : (tx ty dest p s).lineTx = s.lineTx ++ [{ time := s.timing.now, octets := encodeFrame ty dest s.cfg.thisStation p }] := rfl
@[simp] theorem tx_responses (ty dest : Byte) (p : Octets) (s : State) : (tx ty dest p s).responses = s.responses := rfl

@[simp] theorem respond_build (pt : Port) (r : Result) (e : Option InEntry) (s : State) : (respond pt r e s).build = s.build := rfl
@[simp] theorem respond_cfg (pt : Port) (r : Result) (e : Option InEntry) (s : State) : (respond pt r e s).cfg = s.cfg := rfl
@[simp] theorem respond_cfgValid (pt : Port) (r : Result) (e : Option InEntry) (s : State) : (respond pt r e s).cfgValid = s.cfgValid := rfl
@[simp] theorem respond_tFrameAbort (pt : Port) (r : Result) (e : Option InEntry) (s : State) : (respond pt r e s).tFrameAbort = s.tFrameAbort := rfl
@[simp] theorem respond_tTurnaround (pt : Port) (r : Result) (e : Option InEntry) (s : State) : (respond pt r e s).tTurnaround = s.tTurnaround := rfl
@[simp] theorem respond_ring (pt : Port) (r : Result) (e : Option InEntry) (s : State) : (respond pt r e s).ring = s.ring := rfl
@[simp] theorem respond_timing (pt : Port) (r : Result) (e : Option InEntry) (s : State) : (respond pt r e s).timing = s.timing := rfl
@[simp] theorem respond_rx (pt : Port) (r : Result) (e : Option InEntry) (s : State) : (respond pt r e s).rx = s.rx := rfl
@[simp] theorem respond_outq (pt : Port) (r : Result) (e : Option InEntry) (s : State) : (respond pt r e s).outq = s.outq := rfl
@[simp] theorem respond_inq (pt : Port) (r : Result) (e : Option InEntry) (s : State) : (respond pt r e s).inq = s.inq := rfl
@[simp] theorem respond_cnt (pt : Port) (r : Result) (e : Option InEntry) (s : State) : (respond pt r e s).cnt = s.cnt := rfl
@[simp] theorem respond_inbox (pt : Port) (r : Result) (e : Option InEntry) (s : State) : (respond pt r e s).inbox = s.inbox := rfl
@[simp] theorem respond_lineTx (pt : Port) (r : Result) (e : Option InEntry) (s : State) : (respond pt r e s).lineTx = s.lineTx := rfl
@[simp] theorem respond_responses (pt : Port) (r : Result) (e : Option InEntry) (s : State) : (respond pt r e s).responses = s.responses ++ [{ port := pt, result := r, entry := e }] := rfl

@[simp] theorem setNow_build (t : Time) (s : State) : (setNow t s).build = s.build := rfl
@[simp] theorem setNow_cfg (t : Time) (s : State) : (setNow t s).cfg = s.cfg := rfl
@[simp] theorem setNow_cfgValid (t : Time) (s : State) : (setNow t s).cfgValid = s.cfgValid := rfl
@[simp] theorem setNow_tFrameAbort (t : Time) (s : State) : (setNow t s).tFrameAbort = s.tFrameAbort := rfl
@[simp] theorem setNow_tTurnaround (t : Time) (s : State) : (setNow t s).tTurnaround = s.tTurnaround := rfl
@[simp] theorem setNow_ring (t : Time) (s : State) : (setNow t s).ring = s.ring := rfl
@[simp] theorem setNow_timing (t : Time) (s : State) : (setNow t s).timing = { s.timing with now := t } := rfl
@[simp] theorem setNow_rx (t : Time) (s : State) : (setNow t s).rx = s.rx := rfl
@[simp] theorem setNow_outq (t : Time) (s : State) : (setNow t s).outq = s.outq := rfl
@[simp] theorem setNow_inq (t : Time) (s : State) : (setNow t s).inq = s.inq := rfl
@[simp] theorem setNow_cnt (t : Time) (s : State) : (setNow t s).cnt = s.cnt := rfl
@[simp] theorem setNow_inbox (t : Time) (s : State) : (setNow t s).inbox = s.inbox := rfl
@[simp] theorem setNow_lineTx (t : Time) (s : State) : (setNow t s).lineTx = s.lineTx := rfl
@[simp] theorem setNow_responses (t : Time) (s : State) : (setNow t s).responses = s.responses := rfl

@[simp] theorem stampRxLast_build (s : State) : (stampRxLast s).build = s.build := rfl
@[simp] theorem stampRxLast_cfg (s : State) : (stampRxLast s).cfg = s.cfg := rfl
@[simp] theorem stampRxLast_cfgValid (s : State) : (stampRxLast s).cfgValid = s.cfgValid := rfl
@[simp] theorem stampRxLast_tFrameAbort (s : State) : (stampRxLast s).tFrameAbort = s.tFrameAbort := rfl
@[simp] theorem stampRxLast_tTurnaround (s : State) : (stampRxLast s).tTurnaround = s.tTurnaround := rfl
@[simp] theorem stampRxLast_ring (s : State) : (stampRxLast s).ring = s.ring := rfl
@[simp] theorem stampRxLast_timing (s : State) : (stampRxLast s).timing = { s.timing with rxLast := s.timing.now } := rfl
@[simp] theorem stampRxLast_rx (s : State) : (stampRxLast s).rx = s.rx := rfl
@[simp] theorem stampRxLast_outq (s : State) : (stampRxLast s).outq = s.outq := rfl
@[simp] theorem stampRxLast_inq (s : State) : (stampRxLast s).inq = s.inq := rfl
@[simp] theorem stampRxLast_cnt (s : State) : (stampRxLast s).cnt = s.cnt := rfl
@[simp] theorem stampRxLast_inbox (s : State) : (stampRxLast s).inbox = s.inbox := rfl
@[simp] theorem stampRxLast_lineTx (s : State) : (stampRxLast s).lineTx = s.lineTx := rfl
@[simp] theorem stampRxLast_responses (s : State) : (stampRxLast s).responses = s.responses := rfl

@[simp] theorem rxToHunt_build (s : State) : (rxToHunt s).build = s.build := rfl
@[simp] theorem rxToHunt_cfg (s : State) : (rxToHunt s).cfg = s.cfg := rfl
@[simp] theorem rxToHunt_cfgValid (s : State) : (rxToHunt s).cfgValid = s.cfgValid := rfl
@[simp] theorem rxToHunt_tFrameAbort (s : State) : (rxToHunt s).tFrameAbort = s.tFrameAbort := rfl
@[simp] theorem rxToHunt_tTurnaround (s : State) : (rxToHunt s).tTurnaround = s.tTurnaround := rfl
@[simp] theorem rxToHunt_ring (s : State) : (rxToHunt s).ring = s.ring := rfl
@[simp] theorem rxToHunt_timing (s : State) : (rxToHunt s).timing = s.timing := rfl
@[simp] theorem rxToHunt_rx (s : State) : (rxToHunt s).rx = { s.rx with state := .hunt } := rfl
@[simp] theorem rxToHunt_outq (s : State) : (rxToHunt s).outq = s.outq := rfl
@[simp] theorem rxToHunt_inq (s : State) : (rxToHunt s).inq = s.inq := rfl
@[simp] theorem rxToHunt_cnt (s : State) : (rxToHunt s).cnt = s.cnt := rfl
@[simp] theorem rxToHunt_inbox (s : State) : (rxToHunt s).inbox = s.inbox := rfl
@[simp] theorem rxToHunt_lineTx (s : State) : (rxToHunt s).lineTx = s.lineTx := rfl
@[simp] theorem rxToHunt_responses (s : State) : (rxToHunt s).responses = s.responses := rfl

@[simp] theorem enterInitialize_build (s : State) : (enterInitialize s).build = s.build := rfl
@[simp] theorem enterInitialize_cfg (s : State) : (enterInitialize s).cfg = s.cfg := rfl
@[simp] theorem enterInitialize_cfgValid (s : State) : (enterInitialize s).cfgValid = s.cfgValid := rfl
@[simp] theorem enterInitialize_tFrameAbort (s : State) : (enterInitialize s).tFrameAbort = s.tFrameAbort := rfl
@[simp] theorem enterInitialize_tTurnaround (s : State) : (enterInitialize s).tTurnaround = s.tTurnaround := rfl
@[simp] theorem enterInitialize_ring (s : State) : (enterInitialize s).ring = { s.ring with state := .init } := rfl
@[simp] theorem enterInitialize_timing (s : State) : (enterInitialize s).timing = { s.timing with tsNoToken := s.timing.now } := rfl
@[simp] theorem enterInitialize_rx (s : State) : (enterInitialize s).rx = s.rx := rfl
@[simp] theorem enterInitialize_outq (s : State) : (enterInitialize s).outq = s.outq := rfl
@[simp] theorem enterInitialize_inq (s : State) : (enterInitialize s).inq = s.inq := rfl
@[simp] theorem enterInitialize_cnt (s : State) : (enterInitialize s).cnt = s.cnt := rfl
@[simp] theorem enterInitialize_inbox (s : State) : (enterInitialize s).inbox = s.inbox := rfl
@[simp] theorem enterInitialize_lineTx (s : State) : (enterInitialize s).lineTx = s.lineTx := rfl
@[simp] theorem enterInitialize_responses (s : State) : (enterInitialize s).responses = s.responses := rfl

@[simp] theorem enterIdle_build (s : State) : (enterIdle s).build = s.build := rfl
@[simp] theorem enterIdle_cfg (s : State) : (enterIdle s).cfg = s.cfg := rfl
@[simp] theorem enterIdle_cfgValid (s : State) : (enterIdle s).cfgValid = s.cfgValid := rfl
@[simp] theorem enterIdle_tFrameAbort (s : State) : (enterIdle s).tFrameAbort = s.tFrameAbort := rfl
@[simp] theorem enterIdle_tTurnaround (s : State) : (enterIdle s).tTurnaround = s.tTurnaround := rfl
@[simp] theorem enterIdle_ring (s : State) : (enterIdle s).ring = { s.ring with state := .idle, idleRespKind := .none } := rfl
@[simp] theorem enterIdle_timing (s : State) : (enterIdle s).timing = { s.timing with tsNoToken := s.timing.now } := rfl
@[simp] theorem enterIdle_rx (s : State) : (enterIdle s).rx = s.rx := rfl
@[simp] theorem enterIdle_outq (s : State) : (enterIdle s).outq = s.outq := rfl
@[simp] theorem enterIdle_inq (s : State) : (enterIdle s).inq = s.inq := rfl
@[simp] theorem enterIdle_cnt (s : State) : (enterIdle s).cnt = s.cnt := rfl
@[simp] theorem enterIdle_inbox (s : State) : (enterIdle s).inbox = s.inbox := rfl
@[simp] theorem enterIdle_lineTx (s : State) : (enterIdle s).lineTx = s.lineTx := rfl
@[simp] theorem enterIdle_responses (s : State) : (enterIdle s).responses = s.responses := rfl

@[simp] theorem enterUseToken_build (s : State) : (enterUseToken s).build = s.build := rfl
@[simp] theorem enterUseToken_cfg (s : State) : (enterUseToken s).cfg = s.cfg := rfl
@[simp] theorem enterUseToken_cfgValid (s : State) : (enterUseToken s).cfgValid = s.cfgValid := rfl
@[simp] theorem enterUseToken_tFrameAbort (s : State) : (enterUseToken s).tFrameAbort = s.tFrameAbort := rfl
@[simp] theorem enterUseToken_tTurnaround (s : State) : (enterUseToken s).tTurnaround = s.tTurnaround := rfl
@[simp] theorem enterUseToken_ring (s : State) : (enterUseToken s).ring = { s.ring with state := .useToken, frameCount := 0 } := rfl
@[simp] theorem enterUseToken_timing (s : State) : (enterUseToken s).timing = { s.timing with tsUsage := s.timing.now } := rfl
@[simp] theorem enterUseToken_rx (s : State) : (enterUseToken s).rx = s.rx := rfl
@[simp] theorem enterUseToken_outq (s : State) : (enterUseToken s).outq = s.outq := rfl
@[simp] theorem enterUseToken_inq (s : State) : (enterUseToken s).inq = s.inq := rfl
@[simp] theorem enterUseToken_cnt (s : State) : (enterUseToken s).cnt = s.cnt := rfl
@[simp] theorem enterUseToken_inbox (s : State) : (enterUseToken s).inbox = s.inbox := rfl
@[simp] theorem enterUseToken_lineTx (s : State) : (enterUseToken s).lineTx = s.lineTx := rfl
@[simp] theorem enterUseToken_responses (s : State) : (enterUseToken s).responses = s.responses := rfl

@[simp] theorem enterWaitForReply_build (s : State) : (enterWaitForReply s).build = s.build := rfl
@[simp] theorem enterWaitForReply_cfg (s : State) : (enterWaitForReply s).cfg = s.cfg := rfl
@[simp] theorem enterWaitForReply_cfgValid (s : State) : (enterWaitForReply s).cfgValid = s.cfgValid := rfl
@[simp] theorem enterWaitForReply_tFrameAbort (s : State) : (enterWaitForReply s).tFrameAbort = s.tFrameAbort := rfl
@[simp] theorem enterWaitForReply_tTurnaround (s : State) : (enterWaitForReply s).tTurnaround = s.tTurnaround := rfl
@[simp] theorem enterWaitForReply_ring (s : State) : (enterWaitForReply s).ring = { s.ring with state := .waitForReply } := rfl
@[simp] theorem enterWaitForReply_timing (s : State) : (enterWaitForReply s).timing = { s.timing with tsReply := s.timing.now } := rfl
@[simp] theorem enterWaitForReply_rx (s : State) : (enterWaitForReply s).rx = s.rx := rfl
@[simp] theorem enterWaitForReply_outq (s : State) : (enterWaitForReply s).outq = s.outq := rfl
@[simp] theorem enterWaitForReply_inq (s : State) : (enterWaitForReply s).inq = s.inq := rfl
@[simp] theorem enterWaitForReply_cnt (s : State) : (enterWaitForReply s).cnt = s.cnt := rfl
@[simp] theorem enterWaitForReply_inbox (s : State) : (enterWaitForReply s).inbox = s.inbox := rfl
@[simp] theorem enterWaitForReply_lineTx (s : State) : (enterWaitForReply s).lineTx = s.lineTx := rfl
@[simp] theorem enterWaitForReply_responses (s : State) : (enterWaitForReply s).responses = s.responses := rfl

@[simp] theorem enterPollForMaster_build (s : State) : (enterPollForMaster s).build = s.build := rfl
@[simp] theorem enterPollForMaster_cfg (s : State) : (enterPollForMaster s).cfg = s.cfg := rfl
@[simp] theorem enterPollForMaster_cfgValid (s : State) : (enterPollForMaster s).cfgValid = s.cfgValid := rfl
@[simp] theorem enterPollForMaster_tFrameAbort (s : State) : (enterPollForMaster s).tFrameAbort = s.tFrameAbort := rfl
@[simp] theorem enterPollForMaster_tTurnaround (s : State) : (enterPollForMaster s).tTurnaround = s.tTurnaround := rfl
@[simp] theorem enterPollForMaster_ring (s : State) : (enterPollForMaster s).ring = { s.ring with state := .pollForMaster, pollStation := succ s.cfg s.cfg.thisStation, pfmSent := false } := rfl
@[simp] theorem enterPollForMaster_timing (s : State) : (enterPollForMaster s).timing = { s.timing with tsNoToken := s.timing.now } := rfl
@[simp] theorem enterPollForMaster_rx (s : State) : (enterPollForMaster s).rx = s.rx := rfl
@[simp] theorem enterPollForMaster_outq (s : State) : (enterPollForMaster s).outq = s.outq := rfl
@[simp] theorem enterPollForMaster_inq (s : State) : (enterPollForMaster s).inq = s.inq := rfl
@[simp] theorem enterPollForMaster_cnt (s : State) : (enterPollForMaster s).cnt = s.cnt := rfl
@[simp] theorem enterPollForMaster_inbox (s : State) : (enterPollForMaster s).inbox = s.inbox := rfl
@[simp] theorem enterPollForMaster_lineTx (s : State) : (enterPollForMaster s).lineTx = s.lineTx := rfl
@[simp] theorem enterPollForMaster_responses (s : State) : (enterPollForMaster s).responses = s.responses := rfl

@[simp] theorem enterAnswer_build (src : Addr) (s : State) : (enterAnswer src s).build = s.build := rfl
@[simp] theorem enterAnswer_cfg (src : Addr) (s : State) : (enterAnswer src s).cfg = s.cfg := rfl
@[simp] theorem enterAnswer_cfgValid (src : Addr) (s : State) : (enterAnswer src s).cfgValid = s.cfgValid := rfl
@[simp] theorem enterAnswer_tFrameAbort (src : Addr) (s : State) : (enterAnswer src s).tFrameAbort = s.tFrameAbort := rfl
@[simp] theorem enterAnswer_tTurnaround (src : Addr) (s : State) : (enterAnswer src s).tTurnaround = s.tTurnaround := rfl
@[simp] theorem enterAnswer_ring (src : Addr) (s : State) : (enterAnswer src s).ring = { s.ring with state := .answerDataRequest, replyTo := src, replyValid := false } := rfl
@[simp] theorem enterAnswer_timing (src : Addr) (s : State) : (enterAnswer src s).timing = { s.timing with tsReplyDelay := s.timing.now } := rfl
@[simp] theorem enterAnswer_rx (src : Addr) (s : State) : (enterAnswer src s).rx = s.rx := rfl
@[simp] theorem enterAnswer_outq (src : Addr) (s : State) : (enterAnswer src s).outq = s.outq := rfl
@[simp] theorem enterAnswer_inq (src : Addr) (s : State) : (enterAnswer src s).inq = s.inq := rfl
@[simp] theorem enterAnswer_cnt (src : Addr) (s : State) : (enterAnswer src s).cnt = s.cnt := rfl
@[simp] theorem enterAnswer_inbox (src : Addr) (s : State) : (enterAnswer src s).inbox = s.inbox := rfl
@[simp] theorem enterAnswer_lineTx (src : Addr) (s : State) : (enterAnswer src s).lineTx = s.lineTx := rfl
@[simp] theorem enterAnswer_responses (src : Addr) (s : State) : (enterAnswer src s).responses = s.responses := rfl

@[simp] theorem promote_build (s : State) : (promote s).build = s.build := rfl
@[simp] theorem promote_cfg (s : State) : (promote s).cfg = s.cfg := rfl
@[simp] theorem promote_cfgValid (s : State) : (promote s).cfgValid = s.cfgValid := rfl
@[simp] theorem promote_tFrameAbort (s : State) : (promote s).tFrameAbort = s.tFrameAbort := rfl
@[simp] theorem promote_tTurnaround (s : State) : (promote s).tTurnaround = s.tTurnaround := rfl
@[simp] theorem promote_ring (s : State) : (promote s).ring = { s.ring with soleMaster := true, nextStation := s.cfg.thisStation, state := .useToken, frameCount := 0 } := rfl
@[simp] theorem promote_timing (s : State) : (promote s).timing = { s.timing with tsUsage := s.timing.now } := rfl
@[simp] theorem promote_rx (s : State) : (promote s).rx = s.rx := rfl
@[simp] theorem promote_outq (s : State) : (promote s).outq = s.outq := rfl
@[simp] theorem promote_inq (s : State) : (promote s).inq = s.inq := rfl
@[simp] theorem promote_cnt (s : State) : (promote s).cnt = s.cnt := rfl
@[simp] theorem promote_inbox (s : State) : (promote s).inbox = s.inbox := rfl
@[simp] theorem promote_lineTx (s : State) : (promote s).lineTx = s.lineTx := rfl
@[simp] theorem promote_responses (s : State) : (promote s).responses = s.responses := rfl

@[simp] theorem clearIdleResponse_build (s : State) : (clearIdleResponse s).build = s.build := rfl
@[simp] theorem clearIdleResponse_cfg (s : State) : (clearIdleResponse s).cfg = s.cfg := rfl
@[simp] theorem clearIdleResponse_cfgValid (s : State) : (clearIdleResponse s).cfgValid = s.cfgValid := rfl
@[simp] theorem clearIdleResponse_tFrameAbort (s : State) : (clearIdleResponse s).tFrameAbort = s.tFrameAbort := rfl
@[simp] theorem clearIdleResponse_tTurnaround (s : State) : (clearIdleResponse s).tTurnaround = s.tTurnaround := rfl
@[simp] theorem clearIdleResponse_ring (s : State) : (clearIdleResponse s).ring = { s.ring with idleRespKind := .none } := rfl
@[simp] theorem clearIdleResponse_timing (s : State) : (clearIdleResponse s).timing = s.timing := rfl
@[simp] theorem clearIdleResponse_rx (s : State) : (clearIdleResponse s).rx = s.rx := rfl
@[simp] theorem clearIdleResponse_outq (s : State) : (clearIdleResponse s).outq = s.outq := rfl
@[simp] theorem clearIdleResponse_inq (s : State) : (clearIdleResponse s).inq = s.inq := rfl
@[simp] theorem clearIdleResponse_cnt (s : State) : (clearIdleResponse s).cnt = s.cnt := rfl
@[simp] theorem clearIdleResponse_inbox (s : State) : (clearIdleResponse s).inbox = s.inbox := rfl
@[simp] theorem clearIdleResponse_lineTx (s : State) : (clearIdleResponse s).lineTx = s.lineTx := rfl
@[simp] theorem clearIdleResponse_responses (s : State) : (clearIdleResponse s).responses = s.responses := rfl

@[simp] theorem bumpFrameCount_build (s : State) : (bumpFrameCount s).build = s.build := rfl
@[simp] theorem bumpFrameCount_cfg (s : State) : (bumpFrameCount s).cfg = s.cfg := rfl
@[simp] theorem bumpFrameCount_cfgValid (s : State) : (bumpFrameCount s).cfgValid = s.cfgValid := rfl
@[simp] theorem bumpFrameCount_tFrameAbort (s : State) : (bumpFrameCount s).tFrameAbort = s.tFrameAbort := rfl
@[simp] theorem bumpFrameCount_tTurnaround (s : State) : (bumpFrameCount s).tTurnaround = s.tTurnaround := rfl
@[simp] theorem bumpFrameCount_ring (s : State) : (bumpFrameCount s).ring = { s.ring with frameCount := s.ring.frameCount + 1 } := rfl
@[simp] theorem bumpFrameCount_timing (s : State) : (bumpFrameCount s).timing = s.timing := rfl
@[simp] theorem bumpFrameCount_rx (s : State) : (bumpFrameCount s).rx = s.rx := rfl
@[simp] theorem bumpFrameCount_outq (s : State) : (bumpFrameCount s).outq = s.outq := rfl
@[simp] theorem bumpFrameCount_inq (s : State) : (bumpFrameCount s).inq = s.inq := rfl
@[simp] theorem bumpFrameCount_cnt (s : State) : (bumpFrameCount s).cnt = s.cnt := rfl
@[simp] theorem bumpFrameCount_inbox (s : State) : (bumpFrameCount s).inbox = s.inbox := rfl
@[simp] theorem bumpFrameCount_lineTx (s : State) : (bumpFrameCount s).lineTx = s.lineTx := rfl
@[simp] theorem bumpFrameCount_responses (s : State) : (bumpFrameCount s).responses = s.responses := rfl

@[simp] theorem bumpTokenCount_build (s : State) : (bumpTokenCount s).build = s.build := rfl
@[simp] theorem bumpTokenCount_cfg (s : State) : (bumpTokenCount s).cfg = s.cfg := rfl
@[simp] theorem bumpTokenCount_cfgValid (s : State) : (bumpTokenCount s).cfgValid = s.cfgValid := rfl
@[simp] theorem bumpTokenCount_tFrameAbort (s : State) : (bumpTokenCount s).tFrameAbort = s.tFrameAbort := rfl
@[simp] theorem bumpTokenCount_tTurnaround (s : State) : (bumpTokenCount s).tTurnaround = s.tTurnaround := rfl
@[simp] theorem bumpTokenCount_ring (s : State) : (bumpTokenCount s).ring = { s.ring with tokenCount := if s.ring.tokenCount = 255 then 255 else s.ring.tokenCount + 1 } := rfl
@[simp] theorem bumpTokenCount_timing (s : State) : (bumpTokenCount s).timing = s.timing := rfl
@[simp] theorem bumpTokenCount_rx (s : State) : (bumpTokenCount s).rx = s.rx := rfl
@[simp] theorem bumpTokenCount_outq (s : State) : (bumpTokenCount s).outq = s.outq := rfl
@[simp] theorem bumpTokenCount_inq (s : State) : (bumpTokenCount s).inq = s.inq := rfl
@[simp] theorem bumpTokenCount_cnt (s : State) : (bumpTokenCount s).cnt = s.cnt := rfl
@[simp] theorem bumpTokenCount_inbox (s : State) : (bumpTokenCount s).inbox = s.inbox := rfl
@[simp] theorem bumpTokenCount_lineTx (s : State) : (bumpTokenCount s).lineTx = s.lineTx := rfl
@[simp] theorem bumpTokenCount_responses (s : State) : (bumpTokenCount s).responses = s.responses := rfl

@[simp] theorem setPfmSent_build (v : Bool) (s : State) : (setPfmSent v s).build = s.build := rfl
@[simp] theorem setPfmSent_cfg (v : Bool) (s : State) : (setPfmSent v s).cfg = s.cfg := rfl
@[simp] theorem setPfmSent_cfgValid (v : Bool) (s : State) : (setPfmSent v s).cfgValid = s.cfgValid := rfl
@[simp] theorem setPfmSent_tFrameAbort (v : Bool) (s : State) : (setPfmSent v s).tFrameAbort = s.tFrameAbort := rfl
@[simp] theorem setPfmSent_tTurnaround (v : Bool) (s : State) : (setPfmSent v s).tTurnaround = s.tTurnaround := rfl
@[simp] theorem setPfmSent_ring (v : Bool) (s : State) : (setPfmSent v s).ring = { s.ring with pfmSent := v } := rfl
@[simp] theorem setPfmSent_timing (v : Bool) (s : State) : (setPfmSent v s).timing = s.timing := rfl
@[simp] theorem setPfmSent_rx (v : Bool) (s : State) : (setPfmSent v s).rx = s.rx := rfl
@[simp] theorem setPfmSent_outq (v : Bool) (s : State) : (setPfmSent v s).outq = s.outq := rfl
@[simp] theorem setPfmSent_inq (v : Bool) (s : State) : (setPfmSent v s).inq = s.inq := rfl
@[simp] theorem setPfmSent_cnt (v : Bool) (s : State) : (setPfmSent v s).cnt = s.cnt := rfl
@[simp] theorem setPfmSent_inbox (v : Bool) (s : State) : (setPfmSent v s).inbox = s.inbox := rfl
@[simp] theorem setPfmSent_lineTx (v : Bool) (s : State) : (setPfmSent v s).lineTx = s.lineTx := rfl
@[simp] theorem setPfmSent_responses (v : Bool) (s : State) : (setPfmSent v s).responses = s.responses := rfl

@[simp] theorem sendProbe_build (s : State) : (sendProbe s).build = s.build := rfl
@[simp] theorem sendProbe_cfg (s : State) : (sendProbe s).cfg = s.cfg := rfl
@[simp] theorem sendProbe_cfgValid (s : State) : (sendProbe s).cfgValid = s.cfgValid := rfl
@[simp] theorem sendProbe_tFrameAbort (s : State) : (sendProbe s).tFrameAbort = s.tFrameAbort := rfl
@[simp] theorem sendProbe_tTurnaround (s : State) : (sendProbe s).tTurnaround = s.tTurnaround := rfl
@[simp] theorem sendProbe_ring (s : State) : (sendProbe s).ring = s.ring := rfl
@[simp] theorem sendProbe_timing (s : State) : (sendProbe s).timing = { s.timing with tsPoll := s.timing.now } := rfl
@[simp] theorem sendProbe_rx (s : State) : (sendProbe s).rx = s.rx := rfl
@[simp] theorem sendProbe_outq (s : State) : (sendProbe s).outq = s.outq := rfl
@[simp] theorem sendProbe_inq (s : State) : (sendProbe s).inq = s.inq := rfl
@[simp] theorem sendProbe_cnt (s : State) : (sendProbe s).cnt = s.cnt.bump .framesTx := rfl
@[simp] theorem sendProbe_inbox (s : State) : (sendProbe s).inbox = s.inbox := rfl
@[simp] theorem sendProbe_lineTx (s : State) : (sendProbe s).lineTx = s.lineTx ++ [{ time := s.timing.now, octets := encodeFrame tagPfm s.ring.pollStation s.cfg.thisStation [] }] := rfl
@[simp] theorem sendProbe_responses (s : State) : (sendProbe s).responses = s.responses := rfl

@[simp] theorem sendReply_build (s : State) : (sendReply s).build = s.build := rfl
@[simp] theorem sendReply_cfg (s : State) : (sendReply s).cfg = s.cfg := rfl
@[simp] theorem sendReply_cfgValid (s : State) : (sendReply s).cfgValid = s.cfgValid := rfl
@[simp] theorem sendReply_tFrameAbort (s : State) : (sendReply s).tFrameAbort = s.tFrameAbort := rfl
@[simp] theorem sendReply_tTurnaround (s : State) : (sendReply s).tTurnaround = s.tTurnaround := rfl
@[simp] theorem sendReply_ring (s : State) : (sendReply s).ring = { s.ring with replyValid := false, state := .idle, idleRespKind := .none } := rfl
@[simp] theorem sendReply_timing (s : State) : (sendReply s).timing = { s.timing with tsNoToken := s.timing.now } := rfl
@[simp] theorem sendReply_rx (s : State) : (sendReply s).rx = s.rx := rfl
@[simp] theorem sendReply_outq (s : State) : (sendReply s).outq = s.outq := rfl
@[simp] theorem sendReply_inq (s : State) : (sendReply s).inq = s.inq := rfl
@[simp] theorem sendReply_cnt (s : State) : (sendReply s).cnt = s.cnt.bump .framesTx := rfl
@[simp] theorem sendReply_inbox (s : State) : (sendReply s).inbox = s.inbox := rfl
@[simp] theorem sendReply_lineTx (s : State) : (sendReply s).lineTx = s.lineTx ++ [{ time := s.timing.now, octets := encodeFrame tagDner s.ring.replyTo s.cfg.thisStation s.ring.replyPayload }] := rfl
@[simp] theorem sendReply_responses (s : State) : (sendReply s).responses = s.responses := rfl

@[simp] theorem wfrReject_build (s : State) : (wfrReject s).build = s.build := rfl
@[simp] theorem wfrReject_cfg (s : State) : (wfrReject s).cfg = s.cfg := rfl
@[simp] theorem wfrReject_cfgValid (s : State) : (wfrReject s).cfgValid = s.cfgValid := rfl
@[simp] theorem wfrReject_tFrameAbort (s : State) : (wfrReject s).tFrameAbort = s.tFrameAbort := rfl
@[simp] theorem wfrReject_tTurnaround (s : State) : (wfrReject s).tTurnaround = s.tTurnaround := rfl
@[simp] theorem wfrReject_ring (s : State) : (wfrReject s).ring = { s.ring with state := .idle, idleRespKind := .none } := rfl
@[simp] theorem wfrReject_timing (s : State) : (wfrReject s).timing = { s.timing with tsNoToken := s.timing.now } := rfl
@[simp] theorem wfrReject_rx (s : State) : (wfrReject s).rx = s.rx := rfl
@[simp] theorem wfrReject_outq (s : State) : (wfrReject s).outq = s.outq := rfl
@[simp] theorem wfrReject_inq (s : State) : (wfrReject s).inq = s.inq := rfl
@[simp] theorem wfrReject_cnt (s : State) : (wfrReject s).cnt = s.cnt.bump .anomaly := rfl
@[simp] theorem wfrReject_inbox (s : State) : (wfrReject s).inbox = s.inbox := rfl
@[simp] theorem wfrReject_lineTx (s : State) : (wfrReject s).lineTx = s.lineTx := rfl
@[simp] theorem wfrReject_responses (s : State) : (wfrReject s).responses = s.responses := rfl

@[simp] theorem acceptPollReply_build (f : Received) (s : State) : (acceptPollReply f s).build = s.build := rfl
@[simp] theorem acceptPollReply_cfg (f : Received) (s : State) : (acceptPollReply f s).cfg = s.cfg := rfl
@[simp] theorem acceptPollReply_cfgValid (f : Received) (s : State) : (acceptPollReply f s).cfgValid = s.cfgValid := rfl
@[simp] theorem acceptPollReply_tFrameAbort (f : Received) (s : State) : (acceptPollReply f s).tFrameAbort = s.tFrameAbort := rfl
@[simp] theorem acceptPollReply_tTurnaround (f : Received) (s : State) : (acceptPollReply f s).tTurnaround = s.tTurnaround := rfl
@[simp] theorem acceptPollReply_ring (f : Received) (s : State) : (acceptPollReply f s).ring = { s.ring with nextStation := f.src, soleMaster := false, state := .passToken } := rfl
@[simp] theorem acceptPollReply_timing (f : Received) (s : State) : (acceptPollReply f s).timing = s.timing := rfl
@[simp] theorem acceptPollReply_rx (f : Received) (s : State) : (acceptPollReply f s).rx = s.rx := rfl
@[simp] theorem acceptPollReply_outq (f : Received) (s : State) : (acceptPollReply f s).outq = s.outq := rfl
@[simp] theorem acceptPollReply_inq (f : Received) (s : State) : (acceptPollReply f s).inq = s.inq := rfl
@[simp] theorem acceptPollReply_cnt (f : Received) (s : State) : (acceptPollReply f s).cnt = s.cnt := rfl
@[simp] theorem acceptPollReply_inbox (f : Received) (s : State) : (acceptPollReply f s).inbox = s.inbox := rfl
@[simp] theorem acceptPollReply_lineTx (f : Received) (s : State) : (acceptPollReply f s).lineTx = s.lineTx := rfl
@[simp] theorem acceptPollReply_responses (f : Received) (s : State) : (acceptPollReply f s).responses = s.responses := rfl

@[simp] theorem owe_build (k : IdleRespKind) (d : Addr) (p : Octets) (s : State) : (owe k d p s).build = s.build := rfl
@[simp] theorem owe_cfg (k : IdleRespKind) (d : Addr) (p : Octets) (s : State) : (owe k d p s).cfg = s.cfg := rfl
@[simp] theorem owe_cfgValid (k : IdleRespKind) (d : Addr) (p : Octets) (s : State) : (owe k d p s).cfgValid = s.cfgValid := rfl
@[simp] theorem owe_tFrameAbort (k : IdleRespKind) (d : Addr) (p : Octets) (s : State) : (owe k d p s).tFrameAbort = s.tFrameAbort := rfl
@[simp] theorem owe_tTurnaround (k : IdleRespKind) (d : Addr) (p : Octets) (s : State) : (owe k d p s).tTurnaround = s.tTurnaround := rfl
@[simp] theorem owe_ring (k : IdleRespKind) (d : Addr) (p : Octets) (s : State) : (owe k d p s).ring = { s.ring with idleRespKind := k, idleRespDest := d, idleRespPayload := p } := rfl
@[simp] theorem owe_timing (k : IdleRespKind) (d : Addr) (p : Octets) (s : State) : (owe k d p s).timing = s.timing := rfl
@[simp] theorem owe_rx (k : IdleRespKind) (d : Addr) (p : Octets) (s : State) : (owe k d p s).rx = s.rx := rfl
@[simp] theorem owe_outq (k : IdleRespKind) (d : Addr) (p : Octets) (s : State) : (owe k d p s).outq = s.outq := rfl
@[simp] theorem owe_inq (k : IdleRespKind) (d : Addr) (p : Octets) (s : State) : (owe k d p s).inq = s.inq := rfl
@[simp] theorem owe_cnt (k : IdleRespKind) (d : Addr) (p : Octets) (s : State) : (owe k d p s).cnt = s.cnt := rfl
@[simp] theorem owe_inbox (k : IdleRespKind) (d : Addr) (p : Octets) (s : State) : (owe k d p s).inbox = s.inbox := rfl
@[simp] theorem owe_lineTx (k : IdleRespKind) (d : Addr) (p : Octets) (s : State) : (owe k d p s).lineTx = s.lineTx := rfl
@[simp] theorem owe_responses (k : IdleRespKind) (d : Addr) (p : Octets) (s : State) : (owe k d p s).responses = s.responses := rfl

@[simp] theorem timing_set_noToken (t : Timing) (v : Time) : t.set .noToken v = { t with tsNoToken := v } := rfl
@[simp] theorem start_noToken (s : State) : s.start .noToken = s.timing.tsNoToken := rfl
@[simp] theorem timing_set_reply (t : Timing) (v : Time) : t.set .reply v = { t with tsReply := v } := rfl
@[simp] theorem start_reply (s : State) : s.start .reply = s.timing.tsReply := rfl
@[simp] theorem timing_set_replyDelay (t : Timing) (v : Time) : t.set .replyDelay v = { t with tsReplyDelay := v } := rfl
@[simp] theorem start_replyDelay (s : State) : s.start .replyDelay = s.timing.tsReplyDelay := rfl
@[simp] theorem timing_set_usage (t : Timing) (v : Time) : t.set .usage v = { t with tsUsage := v } := rfl
@[simp] theorem start_usage (s : State) : s.start .usage = s.timing.tsUsage := rfl
@[simp] theorem timing_set_poll (t : Timing) (v : Time) : t.set .poll v = { t with tsPoll := v } := rfl
@[simp] theorem start_poll (s : State) : s.start .poll = s.timing.tsPoll := rfl
@[simp] theorem bump_hdrCrc (c : Counters) : c.bump .hdrCrc = { c with hdrCrc := c.hdrCrc + 1 } := rfl
@[simp] theorem bump_payloadCrc (c : Counters) : c.bump .payloadCrc = { c with payloadCrc := c.payloadCrc + 1 } := rfl
@[simp] theorem bump_oversize (c : Counters) : c.bump .oversize = { c with oversize := c.oversize + 1 } := rfl
@[simp] theorem bump_frameAbort (c : Counters) : c.bump .frameAbort = { c with frameAbort := c.frameAbort + 1 } := rfl
@[simp] theorem bump_anomaly (c : Counters) : c.bump .anomaly = { c with anomaly := c.anomaly + 1 } := rfl
@[simp] theorem bump_inqOverflow (c : Counters) : c.bump .inqOverflow = { c with inqOverflow := c.inqOverflow + 1 } := rfl
@[simp] theorem bump_outqReject (c : Counters) : c.bump .outqReject = { c with outqReject := c.outqReject + 1 } := rfl
@[simp] theorem bump_framesRx (c : Counters) : c.bump .framesRx = { c with framesRx := c.framesRx + 1 } := rfl
@[simp] theorem bump_framesTx (c : Counters) : c.bump .framesTx = { c with framesTx := c.framesTx + 1 } := rfl

@[simp] theorem timing_set_now (t : Timing) (tm : Timer) (v : Time) : (t.set tm v).now = t.now := by
  cases tm <;> rfl

@[simp] theorem timing_set_rxLast (t : Timing) (tm : Timer) (v : Time) : (t.set tm v).rxLast = t.rxLast := by
  cases tm <;> rfl

end Sys2Proof.Machine
end

