-- ==== Sys2Proof/Laws/Ops.lean ====
section
/-! SUPPORT. What each shared operation can do, said once: the later proofs cite these lemmas instead of
unfolding the operations. -/
namespace Sys2Proof.Machine

/-! ## Conditions -/

/-- When a timer has expired (R342). -/
theorem expired_iff (s : State) (tm : Timer) (d : BitVec 32) :
    expired s tm d = true ↔ d.setWidth 64 ≤ s.timing.now - s.start tm := by
  simp [expired]

/-- When the turnaround is over (R350). -/
theorem turnaroundOk_iff (s : State) :
    turnaroundOk s = true ↔ s.tTurnaround ≤ s.timing.now - s.timing.rxLast := by
  simp [turnaroundOk]

/-- When ANSWER and NO_ANSWER are expected (R385, R387). -/
theorem answerExpected_iff (s : State) :
    answerExpected s = true ↔ s.ring.state = .answerDataRequest ∧ s.ring.replyValid = false := by
  simp [answerExpected]


/-! ## Delivery -/

/-- Everything `deliver` can do (R375): it drops the entry and counts it, or it appends it. -/
theorem deliver_cases (p : Octets) (src : Addr) (s : State) :
    (s.build.inqCap ≤ s.inq.length ∧ deliver p src s = count .inqOverflow s) ∨
    (s.inq.length < s.build.inqCap ∧
      deliver p src s = { s with inq := s.inq ++ [{ payload := p, src := src }] }) := by
  unfold deliver qPush
  by_cases h : s.build.inqCap ≤ s.inq.length
  · exact .inl ⟨h, if_pos h⟩
  · exact .inr ⟨by omega, if_neg h⟩

/-- When a frame is good (R290). -/
theorem good_iff (f : Received) : good f = true ↔ f.len ≠ 0 ∧ f.payloadOk = true := by
  simp [good]

/-- Everything `deliverIfGood` can do (R291). -/
theorem deliverIfGood_cases (f : Received) (s : State) :
    (¬ (f.len ≠ 0 ∧ f.payloadOk = true) ∧ deliverIfGood f s = s) ∨
    (f.len ≠ 0 ∧ f.payloadOk = true ∧ s.build.inqCap ≤ s.inq.length ∧
      deliverIfGood f s = count .inqOverflow s) ∨
    (f.len ≠ 0 ∧ f.payloadOk = true ∧ s.inq.length < s.build.inqCap ∧
      deliverIfGood f s = { s with inq := s.inq ++ [{ payload := f.payload, src := f.src }] }) := by
  unfold deliverIfGood
  by_cases h : good f = true
  · obtain ⟨h1, h2⟩ := (good_iff f).mp h
    rw [if_pos h]
    rcases deliver_cases f.payload f.src s with ⟨h3, h4⟩ | ⟨h3, h4⟩
    · exact .inr (.inl ⟨h1, h2, h3, h4⟩)
    · exact .inr (.inr ⟨h1, h2, h3, h4⟩)
  · exact .inl ⟨fun hg => h ((good_iff f).mpr hg), if_neg h⟩

/-- `deliverIfGood`, by whether the frame is good and whether there is room (R291, R375). -/
theorem deliverIfGood_eq (f : Received) (s : State) :
    deliverIfGood f s =
      if f.len ≠ 0 ∧ f.payloadOk = true then
        if s.build.inqCap ≤ s.inq.length then { s with cnt := { s.cnt with inqOverflow := s.cnt.inqOverflow + 1 } }
        else { s with inq := s.inq ++ [{ payload := f.payload, src := f.src }] }
      else s := by
  rcases deliverIfGood_cases f s with ⟨h, e⟩ | ⟨h1, h2, h3, e⟩ | ⟨h1, h2, h3, e⟩ <;> rw [e]
  · rw [if_neg h]
  · rw [if_pos ⟨h1, h2⟩, if_pos h3]; rfl
  · rw [if_pos ⟨h1, h2⟩, if_neg (by omega)]

/-- `deliverIfGood` writes `INQ` and the overflow counter only. -/
theorem deliverIfGood_frame (f : Received) (s : State) :
    { deliverIfGood f s with inq := s.inq, cnt := { (deliverIfGood f s).cnt with inqOverflow := s.cnt.inqOverflow } } = s := by
  rcases deliverIfGood_cases f s with ⟨-, h⟩ | ⟨-, -, -, h⟩ | ⟨-, -, -, h⟩ <;> simp [h]

/-! ## The frame-abort check -/

/-- Everything the frame-abort check can do (R193). -/
theorem abortCheck_cases (s : State) :
    abortCheck s = s ∨
    (s.rx.state = .preamble ∧ s.tFrameAbort ≤ s.timing.now - s.timing.rxLast ∧ abortCheck s = rxToHunt s) ∨
    ((s.rx.state = .header ∨ s.rx.state = .data) ∧ s.tFrameAbort ≤ s.timing.now - s.timing.rxLast ∧
      ((s.ring.state ≠ .waitForReply ∧ abortCheck s = count .frameAbort (rxToHunt s)) ∨
       (s.ring.state = .waitForReply ∧
        abortCheck s = setRingState .doneWithToken (count .frameAbort (rxToHunt s))))) := by
  unfold abortCheck abortSilence abortReply
  by_cases h : s.tFrameAbort ≤ s.timing.now - s.timing.rxLast
  · cases hr : s.rx.state <;> by_cases hw : s.ring.state = .waitForReply <;> simp [h, hw]
  · left; simp [h]

/-- The check does nothing to a hunting receiver, or before `T_FRAME_ABORT` of silence (R193). -/
theorem abortCheck_quiet (s : State)
    (h : s.rx.state = .hunt ∨ ¬ s.tFrameAbort ≤ s.timing.now - s.timing.rxLast) : abortCheck s = s := by
  rcases abortCheck_cases s with h1 | ⟨h1, h2, -⟩ | ⟨h1, h2, -⟩
  · exact h1
  · rcases h with h | h
    · simp [h] at h1
    · exact absurd h2 h
  · rcases h with h | h
    · simp [h] at h1
    · exact absurd h2 h

/-- An abort leaves the receiver hunting. -/
theorem abortCheck_rx (s : State) : abortCheck s = s ∨ (abortCheck s).rx.state = .hunt := by
  rcases abortCheck_cases s with h | ⟨-, -, h⟩ | ⟨-, -, ⟨-, h⟩ | ⟨-, h⟩⟩ <;> simp [h]

/-- What the check leaves alone: all but the receiver's state, the ring state and the abort counter. -/
theorem abortCheck_frame (s : State) :
    { abortCheck s with
      rx := { (abortCheck s).rx with state := s.rx.state }
      ring := { (abortCheck s).ring with state := s.ring.state }
      cnt := { (abortCheck s).cnt with frameAbort := s.cnt.frameAbort } } = s := by
  rcases abortCheck_cases s with h | ⟨-, -, h⟩ | ⟨-, -, ⟨-, h⟩ | ⟨-, h⟩⟩ <;> rw [h] <;> rfl

@[simp] theorem abortCheck_build (s : State) : (abortCheck s).build = s.build := by
  rcases abortCheck_cases s with h | ⟨-, -, h⟩ | ⟨-, -, ⟨-, h⟩ | ⟨-, h⟩⟩ <;> simp [h]
@[simp] theorem abortCheck_cfg (s : State) : (abortCheck s).cfg = s.cfg := by
  rcases abortCheck_cases s with h | ⟨-, -, h⟩ | ⟨-, -, ⟨-, h⟩ | ⟨-, h⟩⟩ <;> simp [h]
@[simp] theorem abortCheck_cfgValid (s : State) : (abortCheck s).cfgValid = s.cfgValid := by
  rcases abortCheck_cases s with h | ⟨-, -, h⟩ | ⟨-, -, ⟨-, h⟩ | ⟨-, h⟩⟩ <;> simp [h]
@[simp] theorem abortCheck_tFrameAbort (s : State) : (abortCheck s).tFrameAbort = s.tFrameAbort := by
  rcases abortCheck_cases s with h | ⟨-, -, h⟩ | ⟨-, -, ⟨-, h⟩ | ⟨-, h⟩⟩ <;> simp [h]
@[simp] theorem abortCheck_tTurnaround (s : State) : (abortCheck s).tTurnaround = s.tTurnaround := by
  rcases abortCheck_cases s with h | ⟨-, -, h⟩ | ⟨-, -, ⟨-, h⟩ | ⟨-, h⟩⟩ <;> simp [h]
@[simp] theorem abortCheck_timing (s : State) : (abortCheck s).timing = s.timing := by
  rcases abortCheck_cases s with h | ⟨-, -, h⟩ | ⟨-, -, ⟨-, h⟩ | ⟨-, h⟩⟩ <;> simp [h]
@[simp] theorem abortCheck_outq (s : State) : (abortCheck s).outq = s.outq := by
  rcases abortCheck_cases s with h | ⟨-, -, h⟩ | ⟨-, -, ⟨-, h⟩ | ⟨-, h⟩⟩ <;> simp [h]
@[simp] theorem abortCheck_inq (s : State) : (abortCheck s).inq = s.inq := by
  rcases abortCheck_cases s with h | ⟨-, -, h⟩ | ⟨-, -, ⟨-, h⟩ | ⟨-, h⟩⟩ <;> simp [h]
@[simp] theorem abortCheck_inbox (s : State) : (abortCheck s).inbox = s.inbox := by
  rcases abortCheck_cases s with h | ⟨-, -, h⟩ | ⟨-, -, ⟨-, h⟩ | ⟨-, h⟩⟩ <;> simp [h]
@[simp] theorem abortCheck_lineTx (s : State) : (abortCheck s).lineTx = s.lineTx := by
  rcases abortCheck_cases s with h | ⟨-, -, h⟩ | ⟨-, -, ⟨-, h⟩ | ⟨-, h⟩⟩ <;> simp [h]
@[simp] theorem abortCheck_responses (s : State) : (abortCheck s).responses = s.responses := by
  rcases abortCheck_cases s with h | ⟨-, -, h⟩ | ⟨-, -, ⟨-, h⟩ | ⟨-, h⟩⟩ <;> simp [h]

/-- The check changes the ring state only from WAIT_FOR_REPLY. -/
theorem abortCheck_ring (s : State) :
    (abortCheck s).ring = s.ring ∨
    (s.ring.state = .waitForReply ∧ (abortCheck s).ring = { s.ring with state := .doneWithToken }) := by
  rcases abortCheck_cases s with h | ⟨-, -, h⟩ | ⟨-, -, ⟨-, h⟩ | ⟨hw, h⟩⟩ <;> rw [h] <;> simp [*]

end Sys2Proof.Machine
end

