-- ==== Sys2Proof/Laws/Ring.lean ====
section
/-! SUPPORT. What an evaluation and a frame handler can do, said once: the registers they leave alone and the
transmissions they make. -/
namespace Sys2Proof.Machine

/-! ## Evaluation -/

/-- What `s'` keeps of `s` when it is what an evaluation made of it: all but the ring registers, the timer start
registers, `OUTQ`, LINE_TX and the count of transmissions. -/
structure EvalKeeps (s s' : State) : Prop where
  build : s'.build = s.build
  cfg : s'.cfg = s.cfg
  cfgValid : s'.cfgValid = s.cfgValid
  tFrameAbort : s'.tFrameAbort = s.tFrameAbort
  tTurnaround : s'.tTurnaround = s.tTurnaround
  now : s'.timing.now = s.timing.now
  rxLast : s'.timing.rxLast = s.timing.rxLast
  rx : s'.rx = s.rx
  inq : s'.inq = s.inq
  inbox : s'.inbox = s.inbox
  responses : s'.responses = s.responses
  cnt : { s'.cnt with framesTx := s.cnt.framesTx } = s.cnt

/-- A transmission an evaluation makes: guarded by the turnaround (R221), stamped `NOW`, counted, and the
encoding of a frame of its own (R161). -/
structure Emits (s s' : State) (ty dest : Byte) (p : Octets) : Prop where
  guarded : turnaroundOk s = true
  lineTx : s'.lineTx = s.lineTx ++ [{ time := s.timing.now, octets := encodeFrame ty dest s.cfg.thisStation p }]
  cnt : s'.cnt = s.cnt.bump .framesTx

/-- No transmission. -/
structure Silent (s s' : State) : Prop where
  lineTx : s'.lineTx = s.lineTx
  cnt : s'.cnt = s.cnt

/-- The frames each evaluation rule sends (R144's last column). -/
def SendsFrom (s : State) (ty dest : Byte) (p : Octets) : Prop :=
  (s.ring.state = .idle ∧ ty = tagRpfm ∧ dest = s.ring.idleRespDest ∧ p = []) ∨
  (s.ring.state = .idle ∧ ty = tagTestResponse ∧ dest = s.ring.idleRespDest ∧ p = s.ring.idleRespPayload) ∨
  (s.ring.state = .useToken ∧ (ty = tagDer ∨ ty = tagDner) ∧ ∃ e rest, s.outq = e :: rest ∧ dest = e.dest ∧ p = e.payload) ∨
  (s.ring.state = .passToken ∧ ty = tagToken ∧ dest = s.ring.nextStation ∧ p = []) ∨
  (s.ring.state = .pollForMaster ∧ ty = tagPfm ∧ p = []) ∨
  (s.ring.state = .answerDataRequest ∧ ty = tagDner ∧ dest = s.ring.replyTo ∧ p = s.ring.replyPayload)

theorem evaluate_keeps (s : State) : EvalKeeps s (evaluate s) := by
  cases hs : s.ring.state <;> simp only [evaluate, hs]
  · simp only [evalInitialize]; split <;> constructor <;> simp
  · simp only [evalIdle, sendIdleResponse]
    split
    · split
      · split <;> constructor <;> simp
      · constructor <;> simp
    · split <;> constructor <;> simp
  · simp only [evalUseToken, sendEntry]
    split
    · constructor <;> simp
    · split
      · constructor <;> simp
      · split
        · constructor <;> simp
        · split
          · split <;> constructor <;> simp
          · constructor <;> simp
  · simp only [evalWaitForReply]; split <;> constructor <;> simp
  · simp only [evalDoneWithToken]; split <;> constructor <;> simp
  · simp only [evalPassToken]
    split
    · split <;> constructor <;> simp
    · constructor <;> simp
  · simp only [evalNoToken]; split <;> constructor <;> simp
  · simp only [evalPollForMaster, nextProbe]
    repeat' split
    all_goals constructor <;> simp
  · simp only [evalAnswer, evalAnswerMaximum, evalAnswerMinimum]
    repeat' split
    all_goals constructor <;> simp

theorem silent_of {s s' : State} (h1 : s'.lineTx = s.lineTx) (h2 : s'.cnt = s.cnt) : Silent s s' := ⟨h1, h2⟩

/-- Everything an evaluation can do to LINE_TX (R221, R222, R246). -/
theorem evaluate_emits (s : State) :
    Silent s (evaluate s) ∨ ∃ ty dest p, Emits s (evaluate s) ty dest p ∧ SendsFrom s ty dest p := by
  cases hs : s.ring.state <;> simp only [evaluate, hs]
  · left; simp only [evalInitialize]; split <;> constructor <;> simp
  · simp only [evalIdle, sendIdleResponse]
    split
    · split
      · rename_i hk ht
        split
        · exact absurd ‹_› hk
        · exact .inr ⟨_, _, _, ⟨ht, rfl, rfl⟩, .inl ⟨hs, rfl, rfl, rfl⟩⟩
        · exact .inr ⟨_, _, _, ⟨ht, rfl, rfl⟩, .inr (.inl ⟨hs, rfl, rfl, rfl⟩)⟩
      · left; constructor <;> simp
    · left; split <;> constructor <;> simp
  · simp only [evalUseToken, sendEntry]
    split
    · left; constructor <;> simp
    · split
      · left; constructor <;> simp
      · cases hq : s.outq with
        | nil => left; constructor <;> simp [qPop]
        | cons e rest =>
          simp only [qPop]
          split
          · rename_i ht
            have sends : ∀ ty, (ty = tagDer ∨ ty = tagDner) → SendsFrom s ty e.dest e.payload :=
              fun ty h => .inr (.inr (.inl ⟨hs, h, e, rest, hq, rfl, rfl⟩))
            split
            · exact .inr ⟨_, _, _, ⟨ht, rfl, rfl⟩, sends _ (.inl rfl)⟩
            · exact .inr ⟨_, _, _, ⟨ht, rfl, rfl⟩, sends _ (.inr rfl)⟩
          · left; constructor <;> simp
  · left; simp only [evalWaitForReply]; split <;> constructor <;> simp
  · left; simp only [evalDoneWithToken]; split <;> constructor <;> simp
  · simp only [evalPassToken]
    split
    · rename_i ht
      split <;> exact .inr ⟨_, _, _, ⟨ht, rfl, rfl⟩, .inr (.inr (.inr (.inl ⟨hs, rfl, rfl, rfl⟩)))⟩
    · left; constructor <;> simp
  · left; simp only [evalNoToken]; split <;> constructor <;> simp
  · have sends : ∀ dest, SendsFrom s tagPfm dest [] :=
      fun dest => .inr (.inr (.inr (.inr (.inl ⟨hs, rfl, rfl⟩))))
    simp only [evalPollForMaster, nextProbe]
    split
    · left; constructor <;> simp
    · split
      · split
        · split
          · left; constructor <;> simp
          · split
            · rename_i ht; exact .inr ⟨_, _, _, ⟨ht, rfl, rfl⟩, sends _⟩
            · left; constructor <;> simp
        · left; constructor <;> simp
      · split
        · left; constructor <;> simp
        · split
          · rename_i ht; exact .inr ⟨_, _, _, ⟨ht, rfl, rfl⟩, sends _⟩
          · left; constructor <;> simp
  · have sends : SendsFrom s tagDner s.ring.replyTo s.ring.replyPayload :=
      .inr (.inr (.inr (.inr (.inr ⟨hs, rfl, rfl, rfl⟩))))
    simp only [evalAnswer, evalAnswerMaximum, evalAnswerMinimum]
    split
    · split
      · split
        · rename_i ht; exact .inr ⟨_, _, _, ⟨ht, rfl, rfl⟩, sends⟩
        · left; constructor <;> simp
      · left; split <;> constructor <;> simp
    · split
      · split
        · rename_i ht
          simp only [Bool.and_eq_true] at ht
          exact .inr ⟨_, _, _, ⟨ht.1, rfl, rfl⟩, sends⟩
        · left; constructor <;> simp
      · left; split <;> constructor <;> simp
    · left; constructor <;> simp

/-! ## Frame handlers -/

/-- What a frame handler leaves alone: all but the ring registers, the timer start registers, `INQ` and two
counters. No handler transmits (R290). -/
structure HandlerKeeps (s s' : State) : Prop where
  build : s'.build = s.build
  cfg : s'.cfg = s.cfg
  cfgValid : s'.cfgValid = s.cfgValid
  tFrameAbort : s'.tFrameAbort = s.tFrameAbort
  tTurnaround : s'.tTurnaround = s.tTurnaround
  now : s'.timing.now = s.timing.now
  rxLast : s'.timing.rxLast = s.timing.rxLast
  rx : s'.rx = s.rx
  outq : s'.outq = s.outq
  inbox : s'.inbox = s.inbox
  lineTx : s'.lineTx = s.lineTx
  responses : s'.responses = s.responses
  cnt : { s'.cnt with anomaly := s.cnt.anomaly, inqOverflow := s.cnt.inqOverflow } = s.cnt

theorem deliverIfGood_keeps (f : Received) (s : State) : HandlerKeeps s (deliverIfGood f s) := by
  rcases deliverIfGood_cases f s with ⟨-, h⟩ | ⟨-, -, -, h⟩ | ⟨-, -, -, h⟩ <;> rw [h] <;> constructor <;> simp

/-- `deliverIfGood` writes no ring or timing register. -/
@[simp] theorem deliverIfGood_ring (f : Received) (s : State) : (deliverIfGood f s).ring = s.ring := by
  rcases deliverIfGood_cases f s with ⟨-, h⟩ | ⟨-, -, -, h⟩ | ⟨-, -, -, h⟩ <;> simp [h]

@[simp] theorem deliverIfGood_timing (f : Received) (s : State) : (deliverIfGood f s).timing = s.timing := by
  rcases deliverIfGood_cases f s with ⟨-, h⟩ | ⟨-, -, -, h⟩ | ⟨-, -, -, h⟩ <;> simp [h]

theorem HandlerKeeps.refl (s : State) : HandlerKeeps s s := by constructor <;> rfl

/-- Everything a frame can do in its step, by the ring state (R290, R309 to R317): nothing; the reject-list
rule of WAIT_FOR_REPLY; one of the rules of IDLE; or the poll reply in POLL_FOR_MASTER. -/
theorem frameHandler_cases (f : RxFrame) (s : State) :
    frameHandler f s = s ∨
    (s.ring.state = .waitForReply ∧ f.tag ∈ rejectSet ∧ frameHandler f s = wfrReject s) ∨
    (s.ring.state = .waitForReply ∧ f.tag ∉ rejectSet ∧ frameHandler f s = wfrAccept f.body s) ∨
    (s.ring.state = .idle ∧ f.body.dest = s.cfg.thisStation ∧ f.tag = tagToken ∧ frameHandler f s = enterUseToken s) ∨
    (s.ring.state = .idle ∧ f.body.dest = s.cfg.thisStation ∧ f.tag = tagPfm ∧
      frameHandler f s = owe .rpfm f.body.src [] s) ∨
    (s.ring.state = .idle ∧ f.body.dest = s.cfg.thisStation ∧ f.tag = tagTestRequest ∧
      frameHandler f s = owe .testResponse f.body.src (if f.body.payloadOk then f.body.payload else []) s) ∨
    (s.ring.state = .idle ∧ f.body.dest = s.cfg.thisStation ∧ f.tag = tagDer ∧
      frameHandler f s = enterAnswer f.body.src (deliverIfGood f.body s)) ∨
    (s.ring.state = .idle ∧ (f.tag = tagDer ∨ f.tag = tagDner) ∧
      (f.body.dest = s.cfg.thisStation ∨ f.body.dest = broadcast) ∧ frameHandler f s = deliverIfGood f.body s) ∨
    (s.ring.state = .pollForMaster ∧ f.body.dest = s.cfg.thisStation ∧ f.tag = tagRpfm ∧
      frameHandler f s = acceptPollReply f.body s) := by
  have tagOf : ∀ ft, FrameType.ofTag f.tag = ft → f.tag = ft.tag := by
    intro ft h
    have : (FrameType.ofTag f.tag).tag = f.tag := by
      unfold FrameType.ofTag
      repeat' split
      all_goals simp_all [FrameType.tag]
    rw [← this, h]
  have reply : s.ring.state = .waitForReply → frameHandler f s = waitForReplyFrame f.tag f.body s := by
    intro hs
    cases hf : FrameType.ofTag f.tag <;>
      simp only [frameHandler, hf, onToken, onPfm, onRpfm, onTestRequest, onTestResponse, onDer, onDner,
        onUnrecognized, onVendor, frameInState, hs] <;>
      rw [tagOf _ hf] <;> rfl
  cases hs : s.ring.state
  case waitForReply =>
    rw [reply hs, waitForReplyFrame]
    by_cases hm : f.tag ∈ rejectSet
    · exact .inr (.inl ⟨rfl, hm, if_pos hm⟩)
    · exact .inr (.inr (.inl ⟨rfl, hm, if_neg hm⟩))
  case idle =>
    by_cases hm : f.body.dest = s.cfg.thisStation <;> cases hf : FrameType.ofTag f.tag <;>
      simp only [frameHandler, hf, onToken, onPfm, onRpfm, onTestRequest, onTestResponse, onDer, onDner,
        onUnrecognized, onVendor, frameInState, hs, ignore, true_or] <;>
      have ht := tagOf _ hf <;> simp only [FrameType.tag] at ht
    all_goals first
      | simp [ht, toMe, hm]; done
      | (by_cases hb : f.body.dest = broadcast
         · simp only [toMe, hm, decide_false, Bool.false_eq_true, if_false, if_pos hb, Bool.false_or,
             decide_eq_true_eq]
           simp [ht, hb]
         · exact .inl (by simp only [toMe, hm, hb, decide_false, Bool.false_eq_true, if_false, Bool.or_false]))
  case pollForMaster =>
    cases hf : FrameType.ofTag f.tag <;>
      simp only [frameHandler, hf, onToken, onPfm, onRpfm, onTestRequest, onTestResponse, onDer, onDner,
        onUnrecognized, onVendor, frameInState, hs, ignore, true_or]
    have ht := tagOf _ hf
    simp only [FrameType.tag] at ht
    by_cases hm : f.body.dest = s.cfg.thisStation
    · simp [ht, toMe, hm]
    · simp [toMe, hm]
  all_goals
    left
    cases hf : FrameType.ofTag f.tag <;>
      simp only [frameHandler, hf, onToken, onPfm, onRpfm, onTestRequest, onTestResponse, onDer, onDner,
        onUnrecognized, onVendor, frameInState, hs]

theorem frameHandler_keeps (f : RxFrame) (s : State) : HandlerKeeps s (frameHandler f s) := by
  have hd := deliverIfGood_keeps f.body s
  obtain ⟨h1, h2, h3, h4, h5, h6, h7, h8, h9, h10, h11, h12, h13⟩ := hd
  rcases frameHandler_cases f s with h | ⟨-, -, h⟩ | ⟨-, -, h⟩ | ⟨-, -, -, h⟩ | ⟨-, -, -, h⟩ | ⟨-, -, -, h⟩ |
    ⟨-, -, -, h⟩ | ⟨-, -, -, h⟩ | ⟨-, -, -, h⟩ <;> rw [h]
  · exact .refl s
  · constructor <;> simp [wfrReject]
  · constructor <;> simp [wfrAccept, *]
  · constructor <;> simp
  · constructor <;> simp
  · constructor <;> simp
  · constructor <;> simp [*]
  · exact deliverIfGood_keeps f.body s
  · constructor <;> simp [acceptPollReply]

end Sys2Proof.Machine
end

