-- ==== Sys2Proof/Laws/Events.lean ====
section
/-! SUPPORT. What the step procedure does with an event, said once: a refused event, an admitted event, an
admitted event that finds no partial frame to abort; and what each shared action keeps. -/
namespace Sys2Proof.Machine

/-! ## The step procedure -/

/-- Step admission with `CFG_VALID = 0` (R241). -/
theorem eventStep_notConfigured (port : Port) (t : Time) (action : State → Acted) (s : State)
    (h : s.cfgValid = false) : eventStep port t action s = respond port .notConfigured none s := by
  simp [eventStep, h]

/-- Step admission of a time stamp below `NOW` (R242). -/
theorem eventStep_timeRegression (port : Port) (t : Time) (action : State → Acted) (s : State)
    (h : s.cfgValid = true) (ht : t < s.timing.now) :
    eventStep port t action s = respond port .timeRegression none s := by
  simp [eventStep, h, ht]

/-- An admitted event runs the phases at its own time (R240). -/
theorem eventStep_admitted (port : Port) (t : Time) (action : State → Acted) (s : State)
    (h : s.cfgValid = true) (ht : s.timing.now ≤ t) :
    eventStep port t action s = phases port action (setNow t s) := by
  have : ¬ t < s.timing.now := by simpa using ht
  simp [eventStep, h, this]

/-- An admitted event that finds nothing to abort: its action, the evaluation, the result. -/
theorem eventStep_quiet (port : Port) (t : Time) (action : State → Acted) (s : State) (h : Quiet t s) :
    eventStep port t action s =
      respond port (action (setNow t s)).result (action (setNow t s)).entry
        (evaluateIfSame s.ring.state (action (setNow t s)).state) := by
  obtain ⟨hv, ht, ha⟩ := h
  have hq : abortCheck (setNow t s) = setNow t s := abortCheck_quiet _ (by
    rcases ha with ha | ha
    · exact .inl ha
    · exact .inr ha)
  rw [eventStep_admitted port t action s hv ht, phases, hq]
  rfl

/-- A tick that finds nothing to abort is the evaluation alone (R248). -/
theorem tick_quiet (t : Time) (s : State) (h : Quiet t s) :
    exec (.tick t) s = .next (respond .clock .ok none (evaluate (setNow t s))) := by
  show Host.Outcome.next (eventStep .clock t tickAction s) = _
  rw [eventStep_quiet _ _ _ _ h]
  simp [tickAction, Acted.plain, evaluateIfSame]

/-- The evaluation phase: the rules of the state, or nothing after a change of state (R245). -/
theorem evaluateIfSame_cases (s0 : RingState) (s : State) :
    (s.ring.state = s0 ∧ evaluateIfSame s0 s = evaluate s) ∨ (s.ring.state ≠ s0 ∧ evaluateIfSame s0 s = s) := by
  by_cases h : s.ring.state = s0
  · exact .inl ⟨h, by simp [evaluateIfSame, h]⟩
  · exact .inr ⟨h, by simp [evaluateIfSame, h]⟩

theorem EvalKeeps.refl (s : State) : EvalKeeps s s := by constructor <;> rfl

/-- What phase 4 leaves alone. -/
theorem evaluateIfSame_keeps (s0 : RingState) (s : State) : EvalKeeps s (evaluateIfSame s0 s) := by
  rcases evaluateIfSame_cases s0 s with ⟨-, h⟩ | ⟨-, h⟩ <;> rw [h]
  · exact evaluate_keeps s
  · exact .refl s

/-- A powered-on block satisfies the invariants, whatever its registers hold (R41, R90). -/
theorem inv_of_atPowerOn (s : State) (h : s.atPowerOn) (hb : s.build.wf) : s.Inv :=
  ⟨hb, fun hv => absurd hv (by simp [h.1])⟩

/-- A run is its first part and then the rest, from where the first part ended. -/
theorem execAll_append (a b : List Instr) (s s1 : State) (h : execAll a s = .next s1) :
    execAll (a ++ b) s = execAll b s1 := by
  induction a generalizing s with
  | nil => cases h; rfl
  | cons i is ih =>
    simp only [execAll, List.cons_append] at h ⊢
    cases he : exec i s with
    | next s' => rw [he] at h; exact ih s' h
    | fault r => rw [he] at h; cases h
    | refused r => rw [he] at h; cases h

/-! ## The receive side -/

/-- The counters after the one a scan names. -/
def Counters.scanned (c : Counters) (counted : Option Counter) : Counters :=
  match counted with
  | none => c
  | some x => c.bump x

/-- What OCTET does before it hands a completed frame over: the receiver's registers, the counter the scan
names, `RX_LAST` and the no-token timer (R194, R195). -/
theorem octet_received (r : ScanResult) (s : State) :
    rearmSilence s.ring.state (stampRxLast (consume r s)) =
      { s with
        rx := r.rx
        cnt := s.cnt.scanned r.counted
        timing := { s.timing with
          rxLast := s.timing.now
          tsNoToken := if listening s.ring.state then s.timing.now else s.timing.tsNoToken } } := by
  unfold rearmSilence consume
  cases r.counted <;> split <;> rfl

/-- OCTET's action when the octet completes no frame. -/
theorem octetAction_none (b : Byte) (s : State) (h : (scan s.build.maxPayload s.rx b).frame = none) :
    octetAction b s = .plain .ok { s with
      rx := (scan s.build.maxPayload s.rx b).rx
      cnt := s.cnt.scanned (scan s.build.maxPayload s.rx b).counted
      timing := { s.timing with
        rxLast := s.timing.now
        tsNoToken := if listening s.ring.state then s.timing.now else s.timing.tsNoToken } } := by
  simp only [octetAction, octet_received, h, dispatchFrame]

/-- OCTET's action when the octet completes a frame (R194, R200). -/
theorem octetAction_some (b : Byte) (s : State) (f : RxFrame) (h : (scan s.build.maxPayload s.rx b).frame = some f) :
    octetAction b s = .plain .ok (frameHandler f { s with
      rx := (scan s.build.maxPayload s.rx b).rx
      cnt := (s.cnt.scanned (scan s.build.maxPayload s.rx b).counted).bump .framesRx
      timing := { s.timing with
        rxLast := s.timing.now
        tsNoToken := if listening s.ring.state then s.timing.now else s.timing.tsNoToken } }) := by
  simp only [octetAction, octet_received, h, dispatchFrame]
  rfl

/-- What every event's own action leaves alone (R290, R370, R380, R385, R387): the configuration and the
build, `NOW`, the time base's derived intervals, the pending records and what has been produced. -/
structure ActionKeeps (s : State) (a : Acted) : Prop where
  build : a.state.build = s.build
  cfg : a.state.cfg = s.cfg
  cfgValid : a.state.cfgValid = s.cfgValid
  tFrameAbort : a.state.tFrameAbort = s.tFrameAbort
  tTurnaround : a.state.tTurnaround = s.tTurnaround
  now : a.state.timing.now = s.timing.now
  inbox : a.state.inbox = s.inbox
  lineTx : a.state.lineTx = s.lineTx
  responses : a.state.responses = s.responses
  admitted : a.result ≠ .notConfigured ∧ a.result ≠ .timeRegression ∧ a.result ≠ .configInvalid

theorem tickAction_keeps (s : State) : ActionKeeps s (tickAction s) := by
  constructor <;> simp [tickAction, Acted.plain]

theorem octetAction_keeps (b : Byte) (s : State) : ActionKeeps s (octetAction b s) := by
  cases h : (scan s.build.maxPayload s.rx b).frame with
  | none => rw [octetAction_none b s h]; constructor <;> simp [Acted.plain]
  | some f =>
    rw [octetAction_some b s f h]
    have hk := fun x => frameHandler_keeps f x
    constructor
    case admitted => simp [Acted.plain]
    case build => exact (hk _).build
    case cfg => exact (hk _).cfg
    case cfgValid => exact (hk _).cfgValid
    case tFrameAbort => exact (hk _).tFrameAbort
    case tTurnaround => exact (hk _).tTurnaround
    case now => exact (hk _).now
    case inbox => exact (hk _).inbox
    case lineTx => exact (hk _).lineTx
    case responses => exact (hk _).responses

theorem enqueueAction_keeps (p : Octets) (d : Addr) (er : Bool) (s : State) :
    ActionKeeps s (enqueueAction p d er s) := by
  unfold enqueueAction
  repeat' split
  all_goals constructor <;> simp [Acted.plain]

theorem dequeueAction_keeps (s : State) : ActionKeeps s (dequeueAction s) := by
  unfold dequeueAction
  split <;> constructor <;> simp [Acted.plain]

theorem answerAction_keeps (p : Octets) (s : State) : ActionKeeps s (answerAction p s) := by
  unfold answerAction
  repeat' split
  all_goals constructor <;> simp [Acted.plain]

theorem noAnswerAction_keeps (s : State) : ActionKeeps s (noAnswerAction s) := by
  unfold noAnswerAction
  split <;> constructor <;> simp [Acted.plain]

/-- The action of an event that step admission checks; RESET and the frame types have none. -/
def actionOf : Instr → State → Acted
  | .octet _ b => octetAction b
  | .enqueue _ p d er => enqueueAction p d er
  | .dequeue _ => dequeueAction
  | .answer _ p => answerAction p
  | .noAnswer _ => noAnswerAction
  | .tick _ => tickAction
  | .reset _ _ => tickAction
  | .token _ => tickAction
  | .pfm _ => tickAction
  | .rpfm _ => tickAction
  | .testRequest _ => tickAction
  | .testResponse _ => tickAction
  | .der _ => tickAction
  | .dner _ => tickAction
  | .unrecognized _ _ => tickAction
  | .vendor _ _ => tickAction

/-- Every event but RESET is one `eventStep` with its own action. -/
theorem exec_event (i : Instr) (port : Port) (t : Time) (s : State) (h : admissible i = some (port, t)) :
    exec i s = .next (eventStep port t (actionOf i) s) := by
  cases i <;> simp [admissible] at h <;> obtain ⟨rfl, rfl⟩ := h <;> rfl

theorem actionOf_keeps (i : Instr) (s : State) : ActionKeeps s (actionOf i s) := by
  cases i <;> simp only [actionOf]
  case octet => exact octetAction_keeps _ s
  case enqueue => exact enqueueAction_keeps _ _ _ s
  case dequeue => exact dequeueAction_keeps s
  case answer => exact answerAction_keeps _ s
  case noAnswer => exact noAnswerAction_keeps s
  all_goals exact tickAction_keeps s

end Sys2Proof.Machine
end

