-- ==== Sys2Proof/Laws/PerInstr.lean ====
section
/-! SUPPORT. The family of statements made per instruction: the octets an encoding opens with are those the
opcode table gives the instruction. -/
namespace Sys2Proof.Laws.EncodesOpcode
open Sys2Proof

/-- The octets that say which instruction it is: the synchronization pattern and the tag of a frame (R143 to
R146), the event code of an event (R172). -/
def opening : Instr → Octets
  | .token _ => [0x55, 0xFF, 0x00]
  | .pfm _ => [0x55, 0xFF, 0x01]
  | .rpfm _ => [0x55, 0xFF, 0x02]
  | .testRequest _ => [0x55, 0xFF, 0x03]
  | .testResponse _ => [0x55, 0xFF, 0x04]
  | .der _ => [0x55, 0xFF, 0x05]
  | .dner _ => [0x55, 0xFF, 0x06]
  | .unrecognized tag _ => [0x55, 0xFF, tag]
  | .vendor tag _ => [0x55, 0xFF, tag]
  | .reset _ _ => [0]
  | .tick _ => [1]
  | .octet _ _ => [2]
  | .enqueue _ _ _ _ => [3]
  | .dequeue _ => [4]
  | .answer _ _ => [5]
  | .noAnswer _ => [6]

/-- The encoding opens with the instruction's own octets. -/
def Statement (i : Instr) : Prop := (encode i).take (opening i).length = opening i

theorem encodeReceived_opens (tag : Byte) (f : Received) : (encodeReceived tag f).take 3 = [0x55, 0xFF, tag] := by
  unfold encodeReceived encodeFrame encodeFailed headerOctets
  split
  · dsimp only
    split <;> rfl
  · rfl

theorem token (f : Received) : Statement (.token f) := encodeReceived_opens _ f
theorem pfm (f : Received) : Statement (.pfm f) := encodeReceived_opens _ f
theorem rpfm (f : Received) : Statement (.rpfm f) := encodeReceived_opens _ f
theorem testRequest (f : Received) : Statement (.testRequest f) := encodeReceived_opens _ f
theorem testResponse (f : Received) : Statement (.testResponse f) := encodeReceived_opens _ f
theorem der (f : Received) : Statement (.der f) := encodeReceived_opens _ f
theorem dner (f : Received) : Statement (.dner f) := encodeReceived_opens _ f
theorem unrecognized (tag : Byte) (f : Received) : Statement (.unrecognized tag f) := encodeReceived_opens tag f
theorem vendor (tag : Byte) (f : Received) : Statement (.vendor tag f) := encodeReceived_opens tag f
theorem reset (t : Time) (cfg : Cfg) : Statement (.reset t cfg) := rfl
theorem tick (t : Time) : Statement (.tick t) := rfl
theorem octet (t : Time) (b : Byte) : Statement (.octet t b) := rfl
theorem enqueue (t : Time) (payload : Octets) (dest : Addr) (er : Bool) :
    Statement (.enqueue t payload dest er) := rfl
theorem dequeue (t : Time) : Statement (.dequeue t) := rfl
theorem answer (t : Time) (payload : Octets) : Statement (.answer t payload) := rfl
theorem noAnswer (t : Time) : Statement (.noAnswer t) := rfl

end Sys2Proof.Laws.EncodesOpcode
end

