-- ==== Sys2Proof/Laws/Receiver.lean ====
section
/-! SUPPORT. What the receive scanner can do, said once. -/
namespace Sys2Proof.Machine

/-- When a scan completes a frame, and which: the sixth octet of a header whose length is 0 (R197), or the
second checksum octet of a payload (R199). Either way the receiver hunts again. -/
theorem scan_frame (maxPayload : Nat) (rx : Rx) (b : Byte) (f : RxFrame)
    (h : (scan maxPayload rx b).frame = some f) :
    (scan maxPayload rx b).rx.state = .hunt ∧
    ((rx.state = .header ∧ ¬ rx.index < 5 ∧ b = ~~~ rx.hcrc ∧
      f = { tag := (rx.hdr.set rx.index.toNat b).type, body :=
        { dest := (rx.hdr.set rx.index.toNat b).dest, src := (rx.hdr.set rx.index.toNat b).src,
          len := 0, payload := [], payloadOk := true } }) ∨
     (rx.state = .data ∧ rx.len.toNat < rx.index.toNat ∧
      ∃ ok : Bool, ok = (rx.keep && decide (joinLE16 rx.crcLo b = ~~~ rx.dcrc)) ∧
        f = { tag := rx.hdr.type, body :=
          { dest := rx.hdr.dest, src := rx.hdr.src, len := rx.len,
            payload := if ok then rx.buf else [], payloadOk := ok } })) := by
  unfold scan at h ⊢
  cases hs : rx.state <;> simp only [hs] at h ⊢
  · simp [scanHunt, ScanResult.quiet] at h
  · simp [scanPreamble, ScanResult.quiet] at h
  · unfold scanHeader at h ⊢
    dsimp only at h ⊢
    split at h
    · simp [ScanResult.quiet] at h
    · rename_i hi
      split at h
      · rename_i hb
        simp only [if_neg hi, if_pos hb]
        unfold scanHeaderGood at h ⊢
        dsimp only at h ⊢
        split at h
        · rename_i hl
          simp only [if_pos hl]
          simp only [Option.some.injEq] at h
          subst h
          exact ⟨trivial, .inl ⟨trivial, hi, hb, by rw [hb]⟩⟩
        · simp [ScanResult.quiet] at h
      · simp at h
  · unfold scanData at h ⊢
    dsimp only at h ⊢
    split at h
    · simp [ScanResult.quiet] at h
    · rename_i h1
      split at h
      · simp [ScanResult.quiet] at h
      · rename_i h2
        simp only [if_neg h1, if_neg h2]
        refine ⟨rfl, .inr ⟨trivial, by omega, _, rfl, ?_⟩⟩
        simp only [complete, Option.some.injEq] at h
        exact h.symm

/-- When a scan counts an error (R197, R199): a header checksum that fails, or a payload that fails. -/
theorem scan_counted (maxPayload : Nat) (rx : Rx) (b : Byte) (c : Counter)
    (h : (scan maxPayload rx b).counted = some c) :
    (rx.state = .header ∧ ¬ rx.index < 5 ∧ b ≠ ~~~ rx.hcrc ∧ c = .hdrCrc) ∨
    (rx.state = .data ∧ rx.len.toNat < rx.index.toNat ∧
      ((rx.keep = false ∧ c = .oversize) ∨
       (rx.keep = true ∧ joinLE16 rx.crcLo b ≠ ~~~ rx.dcrc ∧ c = .payloadCrc))) := by
  unfold scan at h
  cases hs : rx.state <;> simp only [hs] at h ⊢
  · simp [scanHunt, ScanResult.quiet] at h
  · simp [scanPreamble, ScanResult.quiet] at h
  · unfold scanHeader at h
    dsimp only at h
    split at h
    · simp [ScanResult.quiet] at h
    · rename_i hi
      split at h
      · unfold scanHeaderGood at h
        dsimp only at h
        split at h <;> simp [ScanResult.quiet] at h
      · rename_i hb
        simp only [Option.some.injEq] at h
        exact .inl ⟨trivial, hi, hb, h.symm⟩
  · unfold scanData at h
    dsimp only at h
    split at h
    · simp [ScanResult.quiet] at h
    · rename_i h1
      split at h
      · simp [ScanResult.quiet] at h
      · refine .inr ⟨trivial, by omega, ?_⟩
        cases hk : rx.keep
        · simp [complete, hk] at h; simp [h]
        · simp [complete, hk] at h; simp [h]

end Sys2Proof.Machine
end

