-- ==== Sys2Proof/Tests/Slice0.lean ====
section
/-! SUPPORT. The model's own tests: well-formedness checks that refuse, words written out from the spec's
encodings, one step per instruction against 95_test_vectors.md, and for every statement with hypotheses a
witness that meets them, at the values where its clauses meet. -/
namespace Sys2Proof.Tests
open Sys2Proof Sys2Proof.Machine

set_option Elab.async false

/-! ## Small states -/

/-- "Station 5 idle at 1000000" (95_test_vectors.md, the standard preamble). -/
def idle5 : State :=
  { State.reset with
    cfg := Cfg.default 5
    ring := { State.reset.ring with state := .idle, nextStation := 5, pollStation := 5 }
    timing := { State.reset.timing with now := 1000000, tsNoToken := 1000000 } }

/-- Station 5 at 1000000 in another ring state. -/
def at5 (st : RingState) : State := { idle5 with ring := { idle5.ring with state := st } }

/-- The state after an instruction. -/
def after (i : Instr) (s : State) : State :=
  match exec i s with
  | .next s' => s'
  | .fault _ => s
  | .refused _ => s

/-- A received frame with an intact payload. -/
def good5 (dest src : Byte) (p : Octets) : Received :=
  { dest := dest, src := src, len := BitVec.ofNat 16 p.length, payload := p, payloadOk := true }

/-! ## Well-formedness refuses each ill-formed term -/

theorem test_wf_refuses_payload_shorter_than_length :
    (.token { dest := 0, src := 0, len := 2, payload := [1], payloadOk := true } : Instr).wf 501 = false := by decide

theorem test_wf_refuses_payload_too_long_to_keep :
    (.dner { dest := 0, src := 0, len := 2, payload := [1, 2], payloadOk := true } : Instr).wf 1 = false := by decide

theorem test_wf_refuses_failed_payload_kept :
    (.der { dest := 0, src := 0, len := 1, payload := [1], payloadOk := false } : Instr).wf 501 = false := by decide

theorem test_wf_refuses_failed_payload_of_length_0 :
    (.pfm { dest := 0, src := 0, len := 0, payload := [], payloadOk := false } : Instr).wf 501 = false := by decide

theorem test_wf_refuses_unrecognized_tag_below_range :
    (.unrecognized 0x06 (good5 0 0 []) : Instr).wf 501 = false := by decide

theorem test_wf_refuses_unrecognized_tag_above_range :
    (.unrecognized 0x80 (good5 0 0 []) : Instr).wf 501 = false := by decide

theorem test_wf_refuses_vendor_tag_below_range :
    (.vendor 0x7F (good5 0 0 []) : Instr).wf 501 = false := by decide

theorem test_wf_refuses_semantics_code_of_a_valid_reading :
    (.reset 0 { Cfg.default 3 with replyDelaySemantics := .invalid 1 } : Instr).wf 501 = false := by decide

/-! ## Written-out words (95_test_vectors.md section 3.1; the event records by log entry 2) -/

set_option maxRecDepth 20000

theorem test_decode_token :
    decode 501 [0x55, 0xFF, 0x00, 0x00, 0x7F, 0x00, 0x00, 0x3F] =
      .ok (.token (good5 0 127 [])) := by decide +kernel

theorem test_decode_pfm :
    decode 501 [0x55, 0xFF, 0x01, 0x04, 0x03, 0x00, 0x00, 0xF5] =
      .ok (.pfm (good5 4 3 [])) := by decide +kernel

theorem test_decode_rpfm :
    decode 501 [0x55, 0xFF, 0x02, 0x03, 0x04, 0x00, 0x00, 0x0B] =
      .ok (.rpfm (good5 3 4 [])) := by decide +kernel

theorem test_decode_test_request :
    decode 501 [0x55, 0xFF, 0x03, 0x06, 0x03, 0x00, 0x01, 0x15, 0x01, 0xF1, 0xE1] =
      .ok (.testRequest (good5 6 3 [1])) := by decide +kernel

theorem test_decode_test_response :
    decode 501 [0x55, 0xFF, 0x04, 0x03, 0x06, 0x00, 0x01, 0xD7, 0x01, 0xF1, 0xE1] =
      .ok (.testResponse (good5 3 6 [1])) := by decide +kernel

theorem test_decode_der :
    decode 501 [0x55, 0xFF, 0x05, 0x06, 0x05, 0x00, 0x02, 0x50, 0x10, 0x20, 0xD4, 0xBB] =
      .ok (.der (good5 6 5 [0x10, 0x20])) := by decide +kernel

theorem test_decode_dner :
    decode 501 [0x55, 0xFF, 0x06, 0x05, 0x10, 0x00, 0x03, 0xDA, 0x01, 0x22, 0x30, 0x10, 0xBD] =
      .ok (.dner (good5 5 0x10 [0x01, 0x22, 0x30])) := by decide +kernel

theorem test_decode_dner_with_a_failed_payload :
    decode 501 [0x55, 0xFF, 0x06, 0x05, 0x06, 0x00, 0x02, 0xEA, 0x11, 0x22, 0x1E, 0x01] =
      .ok (.dner { dest := 5, src := 6, len := 2, payload := [], payloadOk := false }) := by decide +kernel

theorem test_decode_unrecognized :
    decode 501 [0x55, 0xFF, 0x07, 0x05, 0x06, 0x00, 0x00, 0x93] =
      .ok (.unrecognized 0x07 (good5 5 6 [])) := by decide +kernel

theorem test_decode_vendor :
    decode 501 [0x55, 0xFF, 0x80, 0x05, 0x06, 0x00, 0x01, 0x3F, 0xAA, 0x28, 0xFA] =
      .ok (.vendor 0x80 (good5 5 6 [0xAA])) := by decide +kernel

theorem test_decode_reset :
    decode 501 [0, 0, 0, 0, 0, 0, 0, 0, 1, 3, 127, 0, 1, 0, 50, 0, 0, 0x96, 0x00, 0, 3, 0xE4, 0x18,
      0, 3, 0xD0, 0x90, 0, 0, 0xC3, 0x50, 0, 0x0F, 0x42, 0x40, 0, 0, 0x13, 0x88, 0, 60, 0, 40, 0] =
      .ok (.reset 1 (Cfg.default 3)) := by decide +kernel

theorem test_decode_tick :
    decode 501 [1, 0, 0, 0, 0, 0, 0, 1, 2] =
      .ok (.tick 258) := by decide +kernel

theorem test_decode_octet :
    decode 501 [2, 0, 0, 0, 0, 0, 0, 0, 9, 0xFF] =
      .ok (.octet 9 0xFF) := by decide +kernel

theorem test_decode_enqueue :
    decode 501 [3, 0, 0, 0, 0, 0, 0, 0, 9, 6, 1, 0x10, 0x20] =
      .ok (.enqueue 9 [0x10, 0x20] 6 true) := by decide +kernel

theorem test_decode_dequeue :
    decode 501 [4, 0, 0, 0, 0, 0, 0, 0, 9] =
      .ok (.dequeue 9) := by decide +kernel

theorem test_decode_answer :
    decode 501 [5, 0, 0, 0, 0, 0, 0, 0, 9, 0x11] =
      .ok (.answer 9 [0x11]) := by decide +kernel

theorem test_decode_no_answer :
    decode 501 [6, 0x80, 0, 0, 0, 0, 0, 0, 9] =
      .ok (.noAnswer 0x8000000000000009) := by decide +kernel

/-- The checksum examples of 95_test_vectors.md section 2. -/
theorem test_checksum_examples :
    headerCRC 0x00 0x10 0x05 0x0000 = 0x8C ∧ payloadCRC [0x01, 0x22, 0x30] = 0xBD10 := by decide +kernel

/-- A frame with a wrong header checksum (vector X2), and one cut short. -/
theorem test_decode_refuses :
    decode 501 [0x55, 0xFF, 0x00, 0x05, 0x04, 0x00, 0x00, 0x36] = .error .headerChecksum ∧
    decode 501 [0x55, 0xFF, 0x06, 0x05, 0x06, 0x00, 0x01, 0xEB] = .error .truncated := by decide +kernel

/-! ## One step per instruction (95_test_vectors.md) -/

/-- R309's example. -/
theorem test_token : (after (.token (good5 5 4 [])) idle5).ring.state = .useToken ∧
    (after (.token (good5 5 4 [])) idle5).timing.tsUsage = 1000000 := by decide +kernel

/-- Vector W9: a token in WAIT_FOR_REPLY, addressed elsewhere. -/
theorem test_token_rejected : (after (.token (good5 9 6 [])) (at5 .waitForReply)).ring.state = .idle ∧
    (after (.token (good5 9 6 [])) (at5 .waitForReply)).cnt.anomaly = 1 := by decide +kernel

/-- R310's example, for station 5. -/
theorem test_pfm : (after (.pfm (good5 5 3 [])) idle5).ring.idleRespKind = .rpfm ∧
    (after (.pfm (good5 5 3 [])) idle5).ring.idleRespDest = 3 := by decide +kernel

/-- R311's example, for station 5. -/
theorem test_rpfm : (after (.rpfm (good5 5 4 [])) (at5 .pollForMaster)).ring.nextStation = 4 ∧
    (after (.rpfm (good5 5 4 [])) (at5 .pollForMaster)).ring.state = .passToken := by decide +kernel

/-- Vector I4: a request whose payload failed is answered with an empty payload. -/
theorem test_test_request :
    (after (.testRequest { dest := 5, src := 3, len := 1, payload := [], payloadOk := false }) idle5).ring.idleRespKind =
      .testResponse ∧
    (after (.testRequest (good5 5 3 [1])) idle5).ring.idleRespPayload = [1] := by decide +kernel

/-- Vector W8. -/
theorem test_test_response :
    (after (.testResponse (good5 5 6 [7])) (at5 .waitForReply)).inq = [{ payload := [7], src := 6 }] := by
  decide +kernel

/-- R314's example, for station 5. -/
theorem test_der : (after (.der (good5 5 6 [0x10])) idle5).ring.state = .answerDataRequest ∧
    (after (.der (good5 5 6 [0x10])) idle5).ring.replyTo = 6 := by decide +kernel

/-- Vector X12: a broadcast request is delivered and not answered. -/
theorem test_der_broadcast : (after (.der (good5 255 6 [0xAB])) idle5).ring.state = .idle ∧
    (after (.der (good5 255 6 [0xAB])) idle5).inq = [{ payload := [0xAB], src := 6 }] := by decide +kernel

/-- Vector X11: a frame for another station is not delivered. -/
theorem test_dner : (after (.dner (good5 255 6 [0xAB])) idle5).inq = [{ payload := [0xAB], src := 6 }] ∧
    (after (.dner (good5 7 6 [0xCD])) idle5).inq = [] := by decide +kernel

/-- Vector W3. -/
theorem test_unrecognized :
    (after (.unrecognized 0x07 (good5 5 6 [])) (at5 .waitForReply)).ring.state = .doneWithToken ∧
    (after (.unrecognized 0x07 (good5 5 6 [])) (at5 .waitForReply)).inq = [] := by decide +kernel

/-- Scenario B. -/
theorem test_vendor :
    (after (.vendor 0x80 (good5 5 6 [0xAA])) (at5 .waitForReply)).inq = [{ payload := [0xAA], src := 6 }] := by
  decide +kernel

/-- Vector E2 and R450's example. -/
theorem test_reset :
    (after (.reset 0 { Cfg.default 5 with nmaxMaster := 4 }) idle5).cfgValid = false ∧
    (after (.reset 0 (Cfg.default 3)) idle5).ring.tokenCount = 50 := by decide +kernel

/-- The preamble "station 5 idle at 1000000". -/
theorem test_reset_then_tick :
    (after (.tick 1000000) (after (.reset 0 (Cfg.default 5)) State.reset)).ring = idle5.ring := by decide +kernel

/-- Scenario C. -/
theorem test_tick :
    (after (.tick 1357862) { at5 .waitForReply with timing := { idle5.timing with tsReply := 1102862 } }).ring.state =
      .doneWithToken ∧
    (after (.tick 1357861) { at5 .waitForReply with timing := { idle5.timing with tsReply := 1102862 } }).ring.state =
      .waitForReply := by decide +kernel

/-- Vector E4. -/
theorem test_tick_refused : (after (.tick 999999) idle5).timing.now = 1000000 ∧
    (after (.tick 999999) idle5).responses = [{ port := .clock, result := .timeRegression, entry := none }] := by
  decide +kernel

/-- Vector X8: at exactly `T_FRAME_ABORT` the octet first aborts the partial frame. -/
theorem test_octet_abort :
    let s := { idle5 with rx := { idle5.rx with state := .header, index := 2 }, timing := { idle5.timing with rxLast := 999000 } }
    (after (.octet 1000563 0x55) s).rx.state = .preamble ∧ (after (.octet 1000563 0x55) s).cnt.frameAbort = 1 ∧
    (after (.octet 1000562 0x55) s).rx.index = 3 := by decide +kernel

/-- Scenario E at a capacity of 1, and vector U2. -/
theorem test_enqueue :
    let s := { idle5 with build := { idle5.build with outqCap := 1, maxPayload := 2 }
                          outq := [{ payload := [0], dest := 6, expectsReply := false }] }
    (after (.enqueue 1000200 [99] 6 false) s).cnt.outqReject = 1 ∧
    (after (.enqueue 1000200 [1, 2, 3] 6 false) s).cnt.outqReject = 0 := by decide +kernel

/-- Vector Q4: a broadcast entry is never sent as DER. -/
theorem test_enqueue_broadcast :
    (after (.enqueue 1001042 [5] 255 true) { at5 .useToken with timing := { idle5.timing with tsUsage := 1000000 } }).lineTx =
      [{ time := 1001042, octets := [0x55, 0xFF, 0x06, 0xFF, 0x05, 0x00, 0x01, 0xE4, 0x05, 0xD5, 0xA7] }] := by
  decide +kernel

/-- R380's example. -/
theorem test_dequeue :
    (after (.dequeue 1000001) { idle5 with inq := [{ payload := [0xAA], src := 6 }] }).responses =
      [{ port := .hostIn, result := .ok, entry := some { payload := [0xAA], src := 6 } }] ∧
    (after (.dequeue 1000001) idle5).responses = [{ port := .hostIn, result := .empty, entry := none }] := by
  decide +kernel

/-- Vector A1, for station 5. -/
theorem test_answer :
    let s := { at5 .answerDataRequest with ring := { (at5 .answerDataRequest).ring with replyTo := 6 } }
    (after (.answer 1002000 [0x11]) s).lineTx =
      [{ time := 1002000, octets := encodeFrame 0x06 6 5 [0x11] }] ∧
    (after (.answer 1002000 [0x11]) s).ring.state = .idle := by decide +kernel

/-- Vector A4. -/
theorem test_no_answer : (after (.noAnswer 1000100) (at5 .answerDataRequest)).ring.state = .idle ∧
    (after (.noAnswer 1000100) idle5).responses =
      [{ port := .hostAnswer, result := .notExpected, entry := none }] := by decide +kernel

/-- A word of the opcode table as the first instruction after reset: a tick, and a vendor frame's last octet. -/
theorem test_fetch_word :
    decodeTableWord 8 1 = some (.tick 0) ∧ (State.reset.withFetchWord 8 1).inbox = [encode (.tick 0)] ∧
    decodeTableWord 8 0x80 = some (.vendor 0x80 (good5 0 0 [])) := by decide +kernel

/-! ## Witnesses: states and operands that meet each statement's hypotheses -/

theorem witness_DecodeOfEncodeIsIdentity :
    (.dner (good5 5 6 [1, 2]) : Instr).wf 2 = true ∧
    (.der { dest := 5, src := 6, len := 0xFFFF, payload := [], payloadOk := false } : Instr).wf 0 = true ∧
    (.unrecognized 0x07 (good5 0 0 []) : Instr).wf 0 = true ∧ (.unrecognized 0x7F (good5 0 0 []) : Instr).wf 0 = true ∧
    (.vendor 0x80 (good5 0 0 []) : Instr).wf 0 = true ∧
    (.reset 0 { Cfg.default 3 with replyDelaySemantics := .invalid 2 } : Instr).wf 0 = true := by decide +kernel

theorem witness_OnlyCodesZeroToSixAreEvents :
    decodeEvent [6, 0, 0, 0, 0, 0, 0, 0, 0] = .ok (.noAnswer 0) ∧ (6 : Byte) < 7 ∧
    decodeEvent [7, 0, 0, 0, 0, 0, 0, 0, 0] = .error (.notAnEvent 7) := by decide +kernel

theorem witness_EveryTagIsClassifiedAndKept :
    (7 : Byte) ≤ 0x07 ∧ (0x7F : Byte) ≤ 0x7F ∧ FrameType.ofTag 0x7F = .unrecognized 0x7F ∧
    FrameType.ofTag 0x80 = .vendor 0x80 := by decide +kernel

theorem witness_ChecksFindSingleBitErrors :
    (0 : Nat) < ([] : Octets).length + 2 ∧ (7 : Nat) < 8 ∧ (5 : Nat) < 6 := by decide +kernel

theorem witness_StepRunsTheDecodedEvent :
    let s := { idle5 with inbox := [[1, 0, 0, 0, 0, 0, 0x0F, 0x42, 0x40]] }
    s.inbox = [[1, 0, 0, 0, 0, 0, 0x0F, 0x42, 0x40]] ∧
    decodeEvent [1, 0, 0, 0, 0, 0, 0x0F, 0x42, 0x40] = .ok (.tick 1000000) ∧ idle5.inbox = [] := by decide +kernel

/-- Station 5 idle, one octet short of `FRAME(TOKEN, 5, 4)`. -/
def lastOctet : State :=
  { idle5 with
    rx := { idle5.rx with
      state := .header, index := 5
      hdr := { type := 0, dest := 5, src := 4, lenHi := 0, lenLo := 0, crc := 0 }
      hcrc := ~~~ 0x37 } }

/-- Station 5 idle, one octet short of `FRAME(DNER, 5, 6, [11])`. -/
def lastDataOctet : State :=
  { idle5 with
    rx := { idle5.rx with
      state := .data, index := 2
      hdr := { type := 6, dest := 5, src := 6, lenHi := 0, lenLo := 1, crc := 0xEB }
      len := 1, dcrc := ~~~ 0xF170, crcLo := 0x70, buf := [0x11] }
    timing := { idle5.timing with rxLast := 1000000 } }

theorem witness_CompletedFrameRunsItsInstruction :
    (Quiet 1000000 { lastOctet with timing := { lastOctet.timing with rxLast := 1000000 } } ∧
      (scan 501 lastOctet.rx 0x37).frame = some { tag := 0, body := good5 5 4 [] }) ∧
    (Quiet 1000000 lastDataOctet ∧ (scan 501 lastDataOctet.rx 0xF1).frame = some { tag := 6, body := good5 5 6 [0x11] }) := by
  unfold Quiet NoAbort
  decide +kernel

theorem witness_RefusedEventsChangeNothing :
    admissible (.tick 5) = some (.clock, 5) ∧ ({ idle5 with cfgValid := false } : State).cfgValid = false ∧
    admissible (.dequeue 999999) = some (.hostIn, 999999) ∧ idle5.cfgValid = true ∧ (999999 : Time) < idle5.timing.now ∧
    ({ idle5 with cfgValid := false } : State).atPowerOn ∧
    validCfg { Cfg.default 3 with nmaxMaster := 2 } = false := by decide +kernel

theorem witness_AdmittedEventsSetNowAndAnswerOnce :
    admissible (.noAnswer 1000000) = some (.hostAnswer, 1000000) ∧ idle5.cfgValid = true ∧ idle5.timing.now ≤ 1000000 := by decide +kernel

theorem witness_ResetSetsEveryRegister :
    validCfg { Cfg.default 0 with nmaxMaster := 0, nmaxInfoFrames := 255, npoll := 255 } = true ∧
    validCfg { Cfg.default 3 with npoll := 256 } = false := by decide +kernel

theorem witness_BitTimesRoundUp :
    1 ≤ (1 : BitVec 16).toNat ∧ 1 ≤ (0xFFFFFFFF : BitVec 32).toNat := by decide +kernel

/-- At the deadline, and one microsecond before it. -/
theorem witness_TickInInitializeAndNoToken :
    (Quiet 2000000 (at5 .init) ∧ (at5 .init).ring.state = .init) ∧
    (Quiet 1999999 (at5 .noToken) ∧ (at5 .noToken).ring.state = .noToken) := by
  unfold Quiet NoAbort
  decide +kernel

/-- Station 5 idle, owing a reply to a poll. -/
def owing : State := { idle5 with
  ring := { idle5.ring with idleRespKind := .rpfm, idleRespDest := 3 }
  timing := { idle5.timing with rxLast := 1000000 } }

/-- Each clause, where it begins. -/
theorem witness_TickInIdle :
    (Quiet 2000000 idle5 ∧ idle5.ring.state = .idle ∧ idle5.ring.idleRespKind = .none ∧
      idle5.cfg.tNoToken.setWidth 64 = (2000000 : Time) - idle5.timing.tsNoToken) ∧
    (Quiet 1001042 owing ∧ owing.ring.idleRespKind ≠ .none ∧ owing.tTurnaround = (1001042 : Time) - owing.timing.rxLast) ∧
    (Quiet 1001041 owing ∧ ¬ owing.tTurnaround ≤ (1001041 : Time) - owing.timing.rxLast) := by
  unfold Quiet NoAbort
  decide +kernel

/-- Station 5 holding the token since 1000000, with one entry queued. -/
def holding (er : Bool) (dest : Addr) : State := { at5 .useToken with
  outq := [{ payload := [1], dest := dest, expectsReply := er }]
  timing := { idle5.timing with rxLast := 1000000, tsUsage := 1000000 } }

/-- The usage timeout, a request, a wait for the turnaround, a broadcast, an empty queue. -/
theorem witness_TickInUseToken :
    (Quiet 1050000 (holding true 6) ∧ (holding true 6).ring.state = .useToken ∧
      (holding true 6).cfg.tUsageTimeout.setWidth 64 = (1050000 : Time) - (holding true 6).timing.tsUsage) ∧
    (Quiet 1001042 (holding true 6) ∧ (holding true 6).tTurnaround = (1001042 : Time) - (holding true 6).timing.rxLast) ∧
    Quiet 1001041 (holding false 6) ∧ (Quiet 1001042 (holding true 255) ∧ (holding true 255).outq.length = 1) ∧
    (Quiet 1001042 (at5 .useToken) ∧ (at5 .useToken).outq = []) := by
  unfold Quiet NoAbort
  decide +kernel

theorem witness_TickInWaitForReply :
    (Quiet 1255000 { at5 .waitForReply with timing := { idle5.timing with tsReply := 1000000 } } ∧
      (at5 .waitForReply).ring.state = .waitForReply) ∧
    Quiet 1254999 { at5 .waitForReply with timing := { idle5.timing with tsReply := 1000000 } } := by
  unfold Quiet NoAbort
  decide +kernel

theorem witness_TickInDoneWithToken :
    (Quiet 1000000 { at5 .doneWithToken with ring := { (at5 .doneWithToken).ring with tokenCount := 50 } } ∧
      (at5 .doneWithToken).ring.state = .doneWithToken) ∧
    Quiet 1000000 { at5 .doneWithToken with ring := { (at5 .doneWithToken).ring with tokenCount := 49 } } := by
  unfold Quiet NoAbort
  decide +kernel

theorem witness_TickInPassToken :
    (Quiet 1001042 { at5 .passToken with timing := { idle5.timing with rxLast := 1000000 } } ∧
      (at5 .passToken).ring.nextStation = 5) ∧
    Quiet 1001041 { at5 .passToken with
      ring := { (at5 .passToken).ring with nextStation := 6 }, timing := { idle5.timing with rxLast := 1000000 } } := by
  unfold Quiet NoAbort
  decide +kernel

/-- Station 5 polling since 1000000, at address `poll`, the probe sent at 1000000 or not. -/
def polling (poll : Addr) (sent : Bool) : State := { at5 .pollForMaster with
  ring := { (at5 .pollForMaster).ring with pollStation := poll, pfmSent := sent }
  timing := { idle5.timing with rxLast := 1000000, tsPoll := 1000000 } }

/-- The overall timeout, a probe due and one held back, a lone address, the end of the sweep, a wrap, a wait. -/
theorem witness_TickInPollForMaster :
    (Quiet 2000000 (polling 6 true) ∧ (polling 6 true).ring.state = .pollForMaster) ∧ Quiet 1999999 (polling 6 false) ∧
    Quiet 1001041 (polling 6 false) ∧ (Quiet 1000000 (polling 5 false) ∧ (polling 5 false).ring.pollStation = 5) ∧
    (Quiet 1005000 (polling 4 true) ∧ succ (polling 4 true).cfg 4 = 5) ∧ Quiet 1005000 (polling 127 true) ∧
    Quiet 1004999 (polling 6 true) := by
  unfold Quiet NoAbort
  decide +kernel

/-- Station 5 answering station 6 since 1000000. -/
def answering (held : Bool) (sem : ReplyDelaySemantics) : State := { at5 .answerDataRequest with
  cfg := { idle5.cfg with replyDelaySemantics := sem }
  ring := { (at5 .answerDataRequest).ring with replyTo := 6, replyValid := held, replyPayload := [1] }
  timing := { idle5.timing with rxLast := 1000000, tsReplyDelay := 1000000 } }

/-- MAXIMUM: sent, held, past the deadline; MINIMUM: sent, held, given up. -/
theorem witness_TickInAnswerDataRequest :
    (Quiet 1001042 (answering true .maximum) ∧ (answering true .maximum).ring.state = .answerDataRequest ∧
      (answering true .maximum).cfg.replyDelaySemantics = .maximum) ∧
    Quiet 1001041 (answering true .maximum) ∧ Quiet 1250000 (answering false .maximum) ∧
    (Quiet 1250000 (answering true .minimum) ∧ (answering true .minimum).cfg.replyDelaySemantics = .minimum) ∧
    Quiet 1249999 (answering true .minimum) ∧ Quiet 1255000 (answering false .minimum) := by
  unfold Quiet NoAbort
  decide +kernel

/-- Station 5 at 1000000 with a partial frame since 998437. -/
def partialFrame (st : RingState) (rx : RxState) : State := { at5 st with
  rx := { idle5.rx with state := rx, index := 1, len := 3 }, timing := { idle5.timing with rxLast := 998437 } }

/-- At exactly `T_FRAME_ABORT`. -/
theorem witness_SilenceAbortsAPartialFrame :
    admissible (.tick 1000000) = some (.clock, 1000000) ∧ idle5.cfgValid = true ∧ idle5.timing.now ≤ 1000000 ∧
    (partialFrame .idle .header).tFrameAbort = (1000000 : Time) - (partialFrame .idle .header).timing.rxLast ∧
    (partialFrame .idle .preamble).rx.state = .preamble ∧ (partialFrame .idle .data).rx.state = .data ∧
    (partialFrame .waitForReply .header).ring.state = .waitForReply ∧
    (partialFrame .waitForReply .data).cfgValid = true ∧ (partialFrame .waitForReply .data).timing.now ≤ 1000000 ∧
    (partialFrame .waitForReply .data).rx.state = .data := by decide +kernel

/-- The octet that reveals the abort is scanned from HUNT (R193, R420 (b)). -/
theorem test_late_octet_ends_the_wait :
    (after (.octet 1000000 0x55) (partialFrame .waitForReply .data)).ring.state = .doneWithToken ∧
    (after (.octet 1000000 0x55) (partialFrame .waitForReply .data)).rx.state = .preamble := by decide +kernel

theorem witness_OctetWithoutAFrameIsATick :
    Quiet 1000000 idle5 ∧ 1 ≤ idle5.tFrameAbort.toNat ∧ (scan idle5.build.maxPayload idle5.rx 0x55).frame = none := by
  unfold Quiet NoAbort
  decide +kernel

/-- Hunting; and in PREAMBLE one microsecond before the abort. -/
theorem witness_OctetSearchesForThePattern :
    Quiet 1000000 idle5 ∧ idle5.rx.state = .hunt ∧
    Quiet 999999 { idle5 with
      rx := { idle5.rx with state := .preamble }
      timing := { idle5.timing with now := 999999, rxLast := 998437 } } := by
  unfold Quiet NoAbort
  decide +kernel

/-- Station 5 with a header collected up to `index`. -/
def inHeader (index : BitVec 32) (lenLo : Byte) : State := { lastOctet with
  rx := { lastOctet.rx with index := index, hdr := { lastOctet.rx.hdr with lenLo := lenLo } }
  timing := { idle5.timing with rxLast := 1000000 } }

theorem witness_OctetCollectsAndChecksTheHeader :
    (Quiet 1000000 (inHeader 4 0) ∧ (inHeader 4 0).rx.state = .header ∧ (inHeader 4 0).rx.index.toNat < 5) ∧
    (Quiet 1000000 (inHeader 5 0) ∧ (inHeader 5 0).rx.index.toNat = 5 ∧ (0x36 : Byte) ≠ ~~~ (inHeader 5 0).rx.hcrc ∧
      (0x37 : Byte) = ~~~ (inHeader 5 0).rx.hcrc ∧ joinBE16 0 0 = 0) ∧
    (Quiet 1000000 (inHeader 5 1) ∧ joinBE16 (inHeader 5 1).rx.hdr.lenHi (inHeader 5 1).rx.hdr.lenLo ≠ 0) := by
  unfold Quiet NoAbort
  decide +kernel

theorem witness_OctetCollectsAndChecksThePayload :
    (Quiet 1000000 lastDataOctet ∧ lastDataOctet.rx.state = .data ∧
      lastDataOctet.rx.index.toNat = lastDataOctet.rx.len.toNat + 1) ∧
    (Quiet 1000000 { lastDataOctet with rx := { lastDataOctet.rx with index := 1 } } ∧ lastDataOctet.rx.len.toNat = 1) ∧
    Quiet 1000000 { lastDataOctet with rx := { lastDataOctet.rx with index := 0 } } := by
  unfold Quiet NoAbort
  decide +kernel

/-- `FRAME(TOKEN, 5, 4)` but for its last octet, one microsecond apart. -/
def tokenEvents : List (Time × Byte) :=
  [(1000000, 0x55), (1000001, 0xFF), (1000002, 0x00), (1000003, 0x05), (1000004, 0x04), (1000005, 0x00), (1000006, 0x00)]

theorem prompt_token : PromptOctets 1000000 1563 (tokenEvents ++ [(1000007, 0x37)]) := by
  simp [tokenEvents, PromptOctets]

theorem witness_ReceiverDecodesWhatTheEncoderSends :
    ∃ events last, idle5.cfgValid = true ∧ idle5.rx.state = .hunt ∧ ([] : Octets).length ≤ idle5.build.maxPayload ∧
      idle5.build.maxPayload ≤ 65535 ∧ events.map Prod.snd ++ [last.2] = encodeFrame 0 5 4 [] ∧
      PromptOctets idle5.timing.now idle5.tFrameAbort (events ++ [last]) :=
  ⟨tokenEvents, (1000007, 0x37), by decide, by decide, by decide, by decide, by decide +kernel, prompt_token⟩

/-- Station 5 idle satisfies the invariants of R90. -/
theorem witness_inv : idle5.Inv where
  buildOk := by decide
  configured := fun _ =>
    { cfgOk := by decide +kernel, frameAbort := by decide +kernel, turnaround := by decide +kernel
      frameCount := by decide, outqLen := by decide, inqLen := by decide
      outqFits := by decide, inqFits := by decide, replyFits := by decide, idleRespFits := by decide
      timers := fun tm => by cases tm <;> decide
      rxLast := by decide, pollStation := by decide
      rxOk := by constructor <;> decide }

/-- `FRAME(DNER, 5, 6, [11])`, the octets as far apart as they may be. -/
def dataEvents : List (Time × Byte) :=
  [(1000000, 0x55), (1001562, 0xFF), (1003124, 0x06), (1004686, 0x05), (1006248, 0x06), (1007810, 0x00),
   (1009372, 0x01), (1010934, 0xEB), (1012496, 0x11), (1014058, 0x70), (1015620, 0xF1)]

theorem prompt_dner : PromptOctets 1000000 1563 dataEvents := by
  simp [dataEvents, PromptOctets]

theorem witness_DataFrameReceivedInIdleIsDelivered :
    ∃ events, idle5.Inv ∧ idle5.cfgValid = true ∧ idle5.ring.state = .idle ∧ idle5.rx.state = .hunt ∧
      1 ≤ ([0x11] : Octets).length ∧ ([0x11] : Octets).length ≤ idle5.build.maxPayload ∧
      idle5.inq.length < idle5.build.inqCap ∧ idle5.cfg.thisStation = 5 ∧
      events.map Prod.snd = encodeFrame 6 5 6 [0x11] ∧ PromptOctets idle5.timing.now idle5.tFrameAbort events :=
  ⟨dataEvents, witness_inv, by decide, by decide, by decide, by decide, by decide,
    by decide, by decide, by decide +kernel, prompt_dner⟩

theorem witness_EnqueueQueuesOrRefuses :
    idle5.cfgValid = true ∧ idle5.timing.now ≤ 1000000 ∧
    (List.replicate 501 (0 : Byte)).length ≤ idle5.build.maxPayload ∧
    idle5.build.maxPayload < (List.replicate 502 (0 : Byte)).length ∧
    idle5.build.outqCap ≤ (List.replicate 8 (0 : Byte)).length ∧ ¬ idle5.build.outqCap ≤ idle5.outq.length := by decide +kernel

theorem witness_HostPayloadsAreSentInTheSameStep :
    (Quiet 1001042 { holding true 6 with outq := [] } ∧ (holding true 6).ring.state = .useToken ∧ ([5] : Octets).length ≤ idle5.build.maxPayload ∧
      1 ≤ idle5.build.outqCap ∧ (holding true 6).tTurnaround ≤ (1001042 : Time) - (holding true 6).timing.rxLast ∧
      (holding true 6).ring.frameCount.toNat < (holding true 6).cfg.nmaxInfoFrames.toNat ∧
      ¬ (holding true 6).cfg.tUsageTimeout.setWidth 64 ≤ (1001042 : Time) - (holding true 6).timing.tsUsage) ∧
    (Quiet 1001042 (answering false .maximum) ∧ (answering false .maximum).ring.replyValid = false ∧
      (answering false .maximum).tTurnaround ≤ (1001042 : Time) - (answering false .maximum).timing.rxLast) := by
  unfold Quiet NoAbort
  decide +kernel

theorem witness_DequeueReturnsTheOldestEntry :
    idle5.cfgValid = true ∧ idle5.timing.now ≤ 1000000 ∧ idle5.inq = [] := by decide +kernel

theorem witness_AnswerIsHeldOrRefused :
    (answering false .maximum).cfgValid = true ∧ (answering false .maximum).timing.now ≤ 1000000 ∧
    (answering false .maximum).ring.state = .answerDataRequest ∧ (answering false .maximum).ring.replyValid = false ∧
    (List.replicate 501 (0 : Byte)).length ≤ (answering false .maximum).build.maxPayload ∧
    ¬ (List.replicate 502 (0 : Byte)).length ≤ (answering false .maximum).build.maxPayload ∧
    ¬ (answering true .maximum).ring.replyValid = false := by decide +kernel

theorem witness_NoAnswerReturnsToIdle :
    (Quiet 1000000 (answering false .maximum) ∧ (answering false .maximum).ring.state = .answerDataRequest ∧
      (answering false .maximum).ring.replyValid = false) ∧
    ((answering true .maximum).cfgValid = true ∧ ¬ (answering true .maximum).ring.replyValid = false) := by
  unfold Quiet NoAbort
  decide +kernel

theorem witness_TokenFrameMeaning :
    idle5.ring.state = .idle ∧ (good5 5 4 []).dest = idle5.cfg.thisStation ∧ (at5 .waitForReply).ring.state = .waitForReply ∧
    ¬ ((at5 .pollForMaster).ring.state = .waitForReply) ∧ (good5 255 4 []).dest ≠ idle5.cfg.thisStation := by decide +kernel

theorem witness_PfmFrameMeaning :
    idle5.ring.state = .idle ∧ (good5 5 3 []).dest = idle5.cfg.thisStation ∧ (at5 .waitForReply).ring.state = .waitForReply ∧
    (at5 .pollForMaster).ring.state ≠ .idle := by decide +kernel

theorem witness_RpfmFrameMeaning :
    (at5 .pollForMaster).ring.state = .pollForMaster ∧ (good5 5 3 []).dest = (at5 .pollForMaster).cfg.thisStation ∧
    (at5 .waitForReply).ring.state = .waitForReply ∧ (good5 4 3 []).dest ≠ (at5 .pollForMaster).cfg.thisStation := by decide +kernel

theorem witness_TestRequestFrameMeaning :
    idle5.ring.state = .idle ∧ (good5 5 3 [1]).dest = idle5.cfg.thisStation ∧ (at5 .waitForReply).ring.state = .waitForReply ∧
    (good5 6 3 [1]).dest ≠ idle5.cfg.thisStation := by decide +kernel

theorem witness_OtherTagsAreRepliesOrIgnored :
    (0x07 : Byte) ≤ 0x07 ∧ (0x7F : Byte) ≤ 0x7F ∧ (0x80 : Byte) ≤ 0x80 ∧ (at5 .waitForReply).ring.state = .waitForReply ∧
    idle5.ring.state ≠ .waitForReply := by decide +kernel

theorem witness_RejectListRule :
    (at5 .waitForReply).ring.state = .waitForReply ∧ ((3 : Byte) ∈ rejectSet) ∧ (4 : Byte) ∉ rejectSet := by decide +kernel

theorem witness_DerFrameMeaning :
    idle5.ring.state = .idle ∧ (good5 5 6 [1]).dest = idle5.cfg.thisStation ∧ (good5 255 6 [1]).dest ≠ idle5.cfg.thisStation ∧
    (good5 254 6 [1]).dest ≠ 255 ∧ (at5 .waitForReply).ring.state = .waitForReply ∧
    (at5 .useToken).ring.state ≠ .idle ∧ (at5 .useToken).ring.state ≠ .waitForReply := by decide +kernel

theorem witness_DnerFrameMeaning :
    idle5.ring.state = .idle ∧ (good5 255 6 [1]).dest = 255 ∧ (good5 4 6 [1]).dest ≠ idle5.cfg.thisStation ∧
    (at5 .waitForReply).ring.state = .waitForReply ∧ (at5 .init).ring.state ≠ .idle := by decide +kernel

theorem witness_EveryStepKeepsTheInvariant : idle5.Inv ∧ ∃ s', step idle5 = .next s' := ⟨witness_inv, _, rfl⟩

/-- Station 5 about to send what it owes. -/
def sending : State := { owing with inbox := [[1, 0, 0, 0, 0, 0, 0x0F, 0x46, 0x52]] }

theorem witness_AtMostOneGuardedTransmissionPerStep :
    ∃ s', step sending = .next s' ∧ s'.lineTx.length = 1 := ⟨_, rfl, by decide +kernel⟩

theorem witness_sending_inv : sending.Inv where
  buildOk := by decide
  configured := fun _ =>
    { cfgOk := by decide +kernel, frameAbort := by decide +kernel, turnaround := by decide +kernel
      frameCount := by decide, outqLen := by decide, inqLen := by decide
      outqFits := by decide, inqFits := by decide, replyFits := by decide, idleRespFits := by decide
      timers := fun tm => by cases tm <;> decide
      rxLast := by decide, pollStation := by decide
      rxOk := by constructor <;> decide }

theorem witness_TransmittedFramesAreItsOwn :
    sending.Inv ∧ ∃ s' x, step sending = .next s' ∧ s'.lineTx = sending.lineTx ++ [x] :=
  ⟨witness_sending_inv, _, { time := 1001042, octets := encodeFrame 2 3 5 [] }, rfl, by decide +kernel⟩

theorem witness_OnlyResetWritesTheConfiguration :
    (∃ s', exec (.tick 1000000) idle5 = .next s') ∧ ∀ t cfg, Instr.tick 1000000 ≠ .reset t cfg :=
  ⟨⟨_, rfl⟩, by intro t cfg h; cases h⟩

theorem witness_NoStepEntersNoToken :
    ∃ s', step (at5 .noToken) = .next s' ∧ s'.ring.state = .noToken := ⟨_, rfl, by decide⟩

/-- A completed TOKEN frame, and a lost token. -/
theorem witness_IdleTakesTheTokenOnlyFromATokenFrame :
    (admissible (.octet 1000000 0x37) = some (.lineRx, 1000000) ∧
      (after (.octet 1000000 0x37) (inHeader 5 0)).ring.state = .useToken ∧ (inHeader 5 0).ring.state = .idle) ∧
    (after (.tick 2000000) idle5).ring.state = .pollForMaster := by decide +kernel

theorem witness_InboundQueueChangesOnThreePathsOnly :
    admissible (.octet 1000000 0xF1) = some (.lineRx, 1000000) ∧
    (after (.octet 1000000 0xF1) lastDataOctet).inq = [{ payload := [0x11], src := 6 }] := by decide +kernel

theorem witness_OutboundQueueIsDrainedOnlyInUseToken :
    admissible (.tick 1001042) = some (.clock, 1001042) ∧ (after (.tick 1001042) (holding true 6)).outq = [] ∧
    (after (.enqueue 1001042 [2] 7 false) (holding false 6)).outq = [{ payload := [2], dest := 7, expectsReply := false }] := by decide +kernel

/-- The sweep of a station just before its first probe, the highest address being `nmax`. -/
def sweeping (nmax station : Addr) : State :=
  let cfg := { Cfg.default station with nmaxMaster := nmax }
  { at5 .pollForMaster with
    cfg := cfg
    ring := { (at5 .pollForMaster).ring with pollStation := succ cfg station, pfmSent := false } }

/-- Ticks every `T_poll_timeout`, from time 1000000. -/
def everyPoll (k : Nat) : Time := 1000000 + 5000 * BitVec.ofNat 64 k

/-- What the statement asks of a sweep that ends after `n` probes. -/
def SweepFits (n : Nat) (s : State) : Prop :=
  n = s.cfg.nmaxMaster.toNat ∧ s.cfgValid = true ∧ validCfg s.cfg = true ∧ s.rx.state = .hunt ∧
  s.ring.state = .pollForMaster ∧ s.ring.pollStation = succ s.cfg s.cfg.thisStation ∧ s.ring.pfmSent = false ∧
  s.timing.tsNoToken ≤ s.timing.now ∧ s.timing.rxLast ≤ s.timing.now ∧ s.timing.now ≤ everyPoll 0 ∧
  s.tTurnaround ≤ everyPoll 0 - s.timing.rxLast ∧
  (∀ k < n, (everyPoll k).toNat + s.cfg.tPollTimeout.toNat ≤ (everyPoll (k + 1)).toNat) ∧
  (everyPoll n).toNat < s.timing.tsNoToken.toNat + s.cfg.tNoToken.toNat

/-- The whole ring of 128 addresses, and the ring of one. -/
theorem witness_SweepProbesEveryOtherAddressOnce :
    validCfg (Cfg.default 127) = true ∧ validCfg { Cfg.default 0 with nmaxMaster := 0 } = true ∧
    succ (Cfg.default 127) 127 = 0 ∧ SweepFits 127 (sweeping 127 5) ∧ SweepFits 0 (sweeping 0 0) := by
  unfold SweepFits
  decide +kernel

/-- With `witness_inv`, all the statement's hypotheses. -/
theorem witness_TickAfterEveryDeadlineLeavesTheState :
    idle5.cfgValid = true ∧ idle5.timing.now.toNat + idle5.cfg.tNoToken.toNat ≤ (2000000 : Time).toNat ∧
    idle5.timing.now.toNat + idle5.cfg.tReplyTimeout.toNat ≤ (2000000 : Time).toNat ∧
    idle5.timing.now.toNat + idle5.cfg.tReplyDelay.toNat ≤ (2000000 : Time).toNat ∧
    idle5.timing.now.toNat + idle5.cfg.tUsageTimeout.toNat ≤ (2000000 : Time).toNat ∧
    idle5.timing.now.toNat + idle5.tTurnaround.toNat ≤ (2000000 : Time).toNat := by decide +kernel

end Sys2Proof.Tests
end

section
/-! PROOF. The wire image of a frame (O3), and what the block transmits (O50). -/

namespace Sys2Proof

/-! ## The wire image of a frame (R140, R142, R160) -/

/-- The eight octets every frame opens with (R142). -/
def fixedHeader (ty dest src : Byte) (len : BitVec 16) : Octets :=
  [sync1, sync2, ty, dest, src, hiByte len, loByte len, headerCRC ty dest src len]

/-- What follows the fixed header: nothing, or the payload and its checksum, low octet first (R110, R142). -/
def payloadPart (p : Octets) : Octets :=
  if p.length = 0 then [] else p ++ [loByte (payloadCRC p), hiByte (payloadCRC p)]

theorem fixedHeader_length (ty dest src : Byte) (len : BitVec 16) : (fixedHeader ty dest src len).length = 8 := rfl

theorem payloadPart_length (p : Octets) : (payloadPart p).length = if p.length = 0 then 0 else p.length + 2 := by
  unfold payloadPart
  split <;> simp

/-- The encoder of R160 is the fixed header and then the payload part. -/
theorem encodeFrame_eq_fixedHeader_append (ty dest src : Byte) (p : Octets) :
    encodeFrame ty dest src p = fixedHeader ty dest src (BitVec.ofNat 16 p.length) ++ payloadPart p := by
  unfold encodeFrame payloadPart
  by_cases h : p.length = 0
  · simp only [if_pos h]; rfl
  · simp only [if_neg h]; rfl

theorem encodeFrame_take_eight (ty dest src : Byte) (p : Octets) :
    (encodeFrame ty dest src p).take 8 = fixedHeader ty dest src (BitVec.ofNat 16 p.length) := by
  rw [encodeFrame_eq_fixedHeader_append]
  exact List.take_left' (fixedHeader_length _ _ _ _)

theorem encodeFrame_length (ty dest src : Byte) (p : Octets) :
    (encodeFrame ty dest src p).length = if p.length = 0 then 8 else 8 + p.length + 2 := by
  rw [encodeFrame_eq_fixedHeader_append, List.length_append, fixedHeader_length, payloadPart_length]
  split <;> omega

/-- Settles O3: the first eight octets are the fixed header, and only the payload part follows it. -/
theorem encodedFrameLayout : Obligations.EncodedFrameLayout :=
  fun ty dest src p => ⟨encodeFrame_take_eight ty dest src p, encodeFrame_length ty dest src p⟩

end Sys2Proof

namespace Sys2Proof.Machine

/-! ## What a step can be -/

/-- The events a port delivers are RESET and those that step admission checks; no record is a frame (R80, R172). -/
theorem decodeEvent_event {record : Octets} {i : Instr} (h : decodeEvent record = .ok i) :
    (∃ t cfg, i = .reset t cfg) ∨ ∃ port t, admissible i = some (port, t) := by
  unfold decodeEvent decodeOperands decodeReset decodeOctet decodeEnqueue endOfRecord at h
  repeat' split at h
  all_goals cases h
  all_goals simp [admissible]

/-- Everything a step that has a next state can be: idle, or the execution of the next event (R240, R438). -/
theorem step_cases {s s' : State} (h : step s = .next s') :
    (s.inbox = [] ∧ s' = s) ∨
    ∃ record rest i, s.inbox = record :: rest ∧ decodeEvent record = .ok i ∧
      exec i { s with inbox := rest } = .next s' := by
  unfold step at h
  cases hin : s.inbox with
  | nil =>
    simp only [hin] at h
    cases h
    exact .inl ⟨rfl, rfl⟩
  | cons record rest =>
    cases hd : decodeEvent record with
    | ok i =>
      simp only [hin, hd] at h
      exact .inr ⟨record, rest, i, rfl, hd, h⟩
    | error e =>
      simp only [hin, hd] at h
      cases h

/-- Everything step admission can do: return a result and change nothing else, or run the phases (R241, R242). -/
theorem eventStep_cases (port : Port) (t : Time) (action : State → Acted) (s : State) :
    (∃ r, eventStep port t action s = respond port r none s) ∨
    (s.cfgValid = true ∧ s.timing.now ≤ t ∧ eventStep port t action s = phases port action (setNow t s)) := by
  cases hv : s.cfgValid with
  | false => exact .inl ⟨_, eventStep_notConfigured port t action s hv⟩
  | true =>
    by_cases ht : t < s.timing.now
    · exact .inl ⟨_, eventStep_timeRegression port t action s hv ht⟩
    · have hle : s.timing.now ≤ t := by simpa using ht
      exact .inr ⟨rfl, hle, eventStep_admitted port t action s hv hle⟩

/-- RESET transmits nothing (R450). -/
theorem resetStep_lineTx (t : Time) (cfg : Cfg) (s : State) : (resetStep t cfg s).lineTx = s.lineTx := by
  unfold resetStep
  split <;> rfl

/-! ## What the phases transmit -/

/-- The state the evaluation of an event finds: after the frame-abort check and the event's own action (R240). -/
def acted (i : Instr) (s : State) : State := (actionOf i (abortCheck s)).state

/-- Up to the evaluation an event has transmitted nothing, and the station and the build are what they were. -/
theorem acted_keeps (i : Instr) (s : State) :
    (acted i s).lineTx = s.lineTx ∧ (acted i s).cfg = s.cfg ∧ (acted i s).build = s.build := by
  have hk := actionOf_keeps i (abortCheck s)
  exact ⟨hk.lineTx.trans (abortCheck_lineTx s), hk.cfg.trans (abortCheck_cfg s), hk.build.trans (abortCheck_build s)⟩

theorem phases_eq (port : Port) (i : Instr) (s : State) :
    phases port (actionOf i) s =
      respond port (actionOf i (abortCheck s)).result (actionOf i (abortCheck s)).entry
        (evaluateIfSame s.ring.state (acted i s)) := rfl

/-- The phases change neither the configuration nor the build (R42). -/
theorem phases_cfg_build (port : Port) (i : Instr) (s : State) :
    (phases port (actionOf i) s).cfg = s.cfg ∧ (phases port (actionOf i) s).build = s.build := by
  obtain ⟨-, hcfg, hbuild⟩ := acted_keeps i s
  have hk := evaluateIfSame_keeps s.ring.state (acted i s)
  rw [phases_eq]
  exact ⟨hk.cfg.trans hcfg, hk.build.trans hbuild⟩

/-- Everything the phases can do to LINE_TX: nothing, or one frame that the evaluation sends (R222, R240). -/
theorem phases_lineTx (port : Port) (i : Instr) (s : State) :
    (phases port (actionOf i) s).lineTx = s.lineTx ∨
    ∃ ty dest p, Emits (acted i s) (evaluate (acted i s)) ty dest p ∧ SendsFrom (acted i s) ty dest p ∧
      (phases port (actionOf i) s).lineTx = (evaluate (acted i s)).lineTx := by
  obtain ⟨hline, -, -⟩ := acted_keeps i s
  rw [phases_eq, respond_lineTx]
  rcases evaluateIfSame_cases s.ring.state (acted i s) with ⟨-, he⟩ | ⟨-, he⟩ <;> rw [he]
  · rcases evaluate_emits (acted i s) with hs | ⟨ty, dest, p, hem, hfrom⟩
    · exact .inl (hs.lineTx.trans hline)
    · exact .inr ⟨ty, dest, p, hem, hfrom, rfl⟩
  · exact .inl hline

/-! ## The payloads the block may send -/

/-- Every payload a register or queue holds for transmission fits `P_MAX_PAYLOAD`: a part of R90. -/
structure State.PayloadsFit (s : State) : Prop where
  outq : ∀ e ∈ s.outq, e.payload.length ≤ s.build.maxPayload
  reply : s.ring.replyPayload.length ≤ s.build.maxPayload
  owed : s.ring.idleRespPayload.length ≤ s.build.maxPayload

theorem State.Configured.payloadsFit {s : State} (h : s.Configured) (t : Time) : (setNow t s).PayloadsFit :=
  ⟨h.outqFits, h.replyFits, h.idleRespFits⟩

/-- The frame-abort check writes no payload (R193). -/
theorem abortCheck_payloadsFit {s : State} (h : s.PayloadsFit) : (abortCheck s).PayloadsFit := by
  obtain ⟨houtq, hreply, howed⟩ := h
  rcases abortCheck_ring s with hr | ⟨-, hr⟩ <;> constructor <;> simpa [hr]

theorem abortCheck_rx_buf (s : State) : (abortCheck s).rx.buf = s.rx.buf := by
  rcases abortCheck_cases s with h | ⟨-, -, h⟩ | ⟨-, -, ⟨-, h⟩ | ⟨-, h⟩⟩ <;> simp [h]

/-- A completed frame's payload is empty or what the receiver stored (R197, R199). -/
theorem scan_frame_payload_length_le {m : Nat} {rx : Rx} {b : Byte} {f : RxFrame}
    (h : (scan m rx b).frame = some f) : f.body.payload.length ≤ rx.buf.length := by
  obtain ⟨-, ⟨-, -, -, rfl⟩ | ⟨-, -, ok, -, rfl⟩⟩ := scan_frame m rx b f h
  · simp
  · cases ok <;> simp

/-- No frame handler writes the held reply. -/
theorem frameHandler_replyPayload (f : RxFrame) (s : State) :
    (frameHandler f s).ring.replyPayload = s.ring.replyPayload := by
  rcases frameHandler_cases f s with h | ⟨-, -, h⟩ | ⟨-, -, h⟩ | ⟨-, -, -, h⟩ | ⟨-, -, -, h⟩ | ⟨-, -, -, h⟩ |
    ⟨-, -, -, h⟩ | ⟨-, -, -, h⟩ | ⟨-, -, -, h⟩ <;> simp [h, wfrAccept]

/-- The response owed after a frame is the one before it, or empty (R310), or the frame's own payload (R312). -/
theorem frameHandler_idleRespPayload (f : RxFrame) (s : State) :
    (frameHandler f s).ring.idleRespPayload = s.ring.idleRespPayload ∨
    (frameHandler f s).ring.idleRespPayload = [] ∨
    (frameHandler f s).ring.idleRespPayload = f.body.payload := by
  rcases frameHandler_cases f s with h | ⟨-, -, h⟩ | ⟨-, -, h⟩ | ⟨-, -, -, h⟩ | ⟨-, -, -, h⟩ | ⟨-, -, -, h⟩ |
    ⟨-, -, -, h⟩ | ⟨-, -, -, h⟩ | ⟨-, -, -, h⟩
  case inr.inr.inr.inr.inr.inl => cases hok : f.body.payloadOk <;> simp [h, hok]
  all_goals simp [h, wfrAccept]

/-- A frame whose payload fits leaves payloads that fit. -/
theorem frameHandler_payloadsFit {f : RxFrame} {s : State} (h : s.PayloadsFit)
    (hf : f.body.payload.length ≤ s.build.maxPayload) : (frameHandler f s).PayloadsFit := by
  have hk := frameHandler_keeps f s
  refine ⟨?outq, ?reply, ?owed⟩ <;> rw [hk.build]
  case outq => rw [hk.outq]; exact h.outq
  case reply => rw [frameHandler_replyPayload]; exact h.reply
  case owed =>
    rcases frameHandler_idleRespPayload f s with he | he | he <;> rw [he]
    · exact h.owed
    · exact Nat.zero_le _
    · exact hf

theorem octetAction_payloadsFit {s : State} (b : Byte) (h : s.PayloadsFit)
    (hbuf : s.rx.buf.length ≤ s.build.maxPayload) : (octetAction b s).state.PayloadsFit := by
  cases hf : (scan s.build.maxPayload s.rx b).frame with
  | none => rw [octetAction_none b s hf]; exact ⟨h.outq, h.reply, h.owed⟩
  | some f =>
    rw [octetAction_some b s f hf]
    exact frameHandler_payloadsFit ⟨h.outq, h.reply, h.owed⟩ ((scan_frame_payload_length_le hf).trans hbuf)

/-- A queued entry has passed R370's length test. -/
theorem enqueueAction_payloadsFit {s : State} (p : Octets) (dest : Addr) (er : Bool) (h : s.PayloadsFit) :
    (enqueueAction p dest er s).state.PayloadsFit := by
  unfold enqueueAction
  split
  · exact h
  · rename_i hlen
    split
    · exact ⟨h.outq, h.reply, h.owed⟩
    · refine ⟨fun e he => ?_, h.reply, h.owed⟩
      rcases List.mem_append.mp he with he | he
      · exact h.outq e he
      · obtain rfl := List.mem_singleton.mp he
        exact Nat.le_of_not_lt hlen

theorem dequeueAction_payloadsFit {s : State} (h : s.PayloadsFit) : (dequeueAction s).state.PayloadsFit := by
  unfold dequeueAction
  split
  · exact h
  · exact ⟨h.outq, h.reply, h.owed⟩

/-- A held reply has passed R385's length test. -/
theorem answerAction_payloadsFit {s : State} (p : Octets) (h : s.PayloadsFit) :
    (answerAction p s).state.PayloadsFit := by
  unfold answerAction
  split
  · split
    · exact h
    · rename_i hlen
      exact ⟨h.outq, Nat.le_of_not_lt hlen, h.owed⟩
  · exact h

theorem noAnswerAction_payloadsFit {s : State} (h : s.PayloadsFit) : (noAnswerAction s).state.PayloadsFit := by
  unfold noAnswerAction
  split
  · exact ⟨h.outq, h.reply, h.owed⟩
  · exact h

/-- No event's own action makes a payload for transmission too long. -/
theorem actionOf_payloadsFit {s : State} (i : Instr) (h : s.PayloadsFit)
    (hbuf : s.rx.buf.length ≤ s.build.maxPayload) : (actionOf i s).state.PayloadsFit := by
  cases i <;> simp only [actionOf]
  case octet => exact octetAction_payloadsFit _ h hbuf
  case enqueue => exact enqueueAction_payloadsFit _ _ _ h
  case dequeue => exact dequeueAction_payloadsFit h
  case answer => exact answerAction_payloadsFit _ h
  case noAnswer => exact noAnswerAction_payloadsFit h
  all_goals exact h

theorem acted_payloadsFit {s : State} (i : Instr) (h : s.PayloadsFit)
    (hbuf : s.rx.buf.length ≤ s.build.maxPayload) : (acted i s).PayloadsFit :=
  actionOf_payloadsFit i (abortCheck_payloadsFit h) (by rwa [abortCheck_rx_buf, abortCheck_build])

/-! ## The frames of its own (R144, R161) -/

/-- The frames the block originates: TOKEN, PFM and RPFM with an empty payload, and TEST_RESPONSE, DER and DNER
with a payload that fits. -/
def OwnFrame (maxPayload : Nat) (ty : Byte) (p : Octets) : Prop :=
  p.length ≤ maxPayload ∧ (((ty = 0 ∨ ty = 1 ∨ ty = 2) ∧ p = []) ∨ ty = 4 ∨ ty = 5 ∨ ty = 6)

/-- What the evaluation rules send from payloads that fit are frames of the block's own. -/
theorem SendsFrom.ownFrame {s : State} {ty dest : Byte} {p : Octets} (h : SendsFrom s ty dest p)
    (hfit : s.PayloadsFit) : OwnFrame s.build.maxPayload ty p := by
  rcases h with ⟨-, rfl, -, rfl⟩ | ⟨-, rfl, -, rfl⟩ | ⟨-, hty, e, rest, hq, -, rfl⟩ | ⟨-, rfl, -, rfl⟩ |
    ⟨-, rfl, rfl⟩ | ⟨-, rfl, -, rfl⟩
  · exact ⟨Nat.zero_le _, by simp⟩
  · exact ⟨hfit.owed, by simp⟩
  · exact ⟨hfit.outq e (by simp [hq]), by rcases hty with rfl | rfl <;> simp⟩
  · exact ⟨Nat.zero_le _, by simp⟩
  · exact ⟨Nat.zero_le _, by simp⟩
  · exact ⟨hfit.reply, by simp⟩

/-- The invariant does not speak of the pending records. -/
theorem State.Inv.withInbox {s : State} (h : s.Inv) (rest : List Octets) : ({ s with inbox := rest } : State).Inv :=
  ⟨h.buildOk, fun hv => { h.configured hv with }⟩

/-- An event leaves LINE_TX alone, or appends one frame of the block's own, under the configuration and the build
it leaves behind. -/
theorem eventStep_transmits {s : State} (h : s.Inv) (port : Port) (t : Time) (i : Instr) :
    (eventStep port t (actionOf i) s).lineTx = s.lineTx ∨
    ∃ ty dest p, OwnFrame (eventStep port t (actionOf i) s).build.maxPayload ty p ∧
      (eventStep port t (actionOf i) s).lineTx = s.lineTx ++
        [{ time := t, octets := encodeFrame ty dest (eventStep port t (actionOf i) s).cfg.thisStation p }] := by
  rcases eventStep_cases port t (actionOf i) s with ⟨r, he⟩ | ⟨hv, -, he⟩ <;> rw [he]
  · exact .inl rfl
  · have hc := h.configured hv
    have hfit : (acted i (setNow t s)).PayloadsFit :=
      acted_payloadsFit i (hc.payloadsFit t) hc.rxOk.bufFits
    obtain ⟨hline, hcfg, hbuild⟩ := acted_keeps i (setNow t s)
    obtain ⟨hcfg', hbuild'⟩ := phases_cfg_build port i (setNow t s)
    rcases phases_lineTx port i (setNow t s) with hsilent | ⟨ty, dest, p, hem, hfrom, hl⟩
    · exact .inl hsilent
    · refine .inr ⟨ty, dest, p, ?_, ?_⟩
      · rw [hbuild', ← hbuild]
        exact hfrom.ownFrame hfit
      · have hnow : (acted i (setNow t s)).timing.now = t := by
          simp [acted, (actionOf_keeps i _).now]
        rw [hl, hem.lineTx, hline, hcfg, hcfg', hnow]
        rfl

/-- Settles O50: only the evaluation transmits, from registers and queues whose payloads the invariant bounds and
the event's own action keeps bounded. -/
theorem transmittedFramesAreItsOwn : Obligations.TransmittedFramesAreItsOwn := by
  intro s s' x hinv hstep hx
  have not_silent : s'.lineTx ≠ s.lineTx := by simp [hx]
  rcases step_cases hstep with ⟨-, rfl⟩ | ⟨record, rest, i, -, hd, hexec⟩
  · exact absurd rfl not_silent
  · rcases decodeEvent_event hd with ⟨t, cfg, rfl⟩ | ⟨port, t, ha⟩
    · obtain rfl : resetStep t cfg { s with inbox := rest } = s' := Host.Outcome.next.inj hexec
      exact absurd (resetStep_lineTx t cfg _) not_silent
    · rw [exec_event i port t _ ha] at hexec
      obtain rfl := Host.Outcome.next.inj hexec
      rcases eventStep_transmits (hinv.withInbox rest) port t i with hsilent | ⟨ty, dest, p, hown, hline⟩
      · exact absurd hsilent not_silent
      · obtain rfl : x = _ := by simpa [hx] using hline
        exact ⟨ty, dest, p, rfl, hown⟩

end Sys2Proof.Machine
end

section
/-! PROOF. The receiver at an OCTET in HUNT and PREAMBLE (O29), HEADER (O30) and DATA (O31). -/

namespace Sys2Proof.Machine

/-! ## What a scan does, one equation per row of R196 to R199 -/

theorem scan_hunt {m : Nat} {rx : Rx} {b : Byte} (hs : rx.state = .hunt) :
    scan m rx b = .quiet (if b = sync1 then { rx with state := .preamble } else rx) := by
  simp only [scan, hs, scanHunt]

theorem scan_preamble {m : Nat} {rx : Rx} {b : Byte} (hs : rx.state = .preamble) :
    scan m rx b = .quiet (
      if b = sync2 then { rx with state := .header, index := 0, hcrc := crc8Init }
      else if b = sync1 then rx
      else { rx with state := .hunt }) := by
  simp only [scan, hs, scanPreamble]

/-- The first five header octets are collected and summed (R197). -/
theorem scan_header_covered {m : Nat} {rx : Rx} {b : Byte} (hs : rx.state = .header) (hi : rx.index.toNat < 5) :
    scan m rx b = .quiet { rx with
      hdr := rx.hdr.set rx.index.toNat b, hcrc := crc8Step b rx.hcrc, index := rx.index + 1 } := by
  have hlt : rx.index < 5 := BitVec.lt_def.mpr hi
  simp only [scan, hs, scanHeader, if_pos hlt]

/-- At index 5 the octet is the header checksum; it is stored even if it does not match (R197). -/
theorem scan_header_mismatch {m : Nat} {rx : Rx} {b : Byte} (hs : rx.state = .header) (hi : rx.index.toNat = 5)
    (hb : b ≠ ~~~ rx.hcrc) :
    scan m rx b = {
      rx := { rx with hdr := { rx.hdr with crc := b }, state := .hunt }, counted := some .hdrCrc, frame := none } := by
  have hge : ¬ rx.index < 5 := fun hlt => absurd (BitVec.lt_def.mp hlt) (by simp [hi])
  simp only [scan, hs, scanHeader, if_neg hge, if_neg hb, hi, RxHeader.set]

theorem scan_header_match {m : Nat} {rx : Rx} {b : Byte} (hs : rx.state = .header) (hi : rx.index.toNat = 5)
    (hb : b = ~~~ rx.hcrc) :
    scan m rx b = scanHeaderGood m { rx with hdr := { rx.hdr with crc := b } } := by
  have hge : ¬ rx.index < 5 := fun hlt => absurd (BitVec.lt_def.mp hlt) (by simp [hi])
  simp only [scan, hs, scanHeader, if_neg hge, if_pos hb, hi, RxHeader.set]

/-- A header that matches, with length 0, is a whole frame (R197). -/
theorem scanHeaderGood_empty {m : Nat} {rx : Rx} (hl : rx.headerLen = 0) :
    scanHeaderGood m rx = {
      rx := { rx with len := 0, state := .hunt }
      counted := none
      frame := some { tag := rx.hdr.type, body :=
        { dest := rx.hdr.dest, src := rx.hdr.src, len := 0, payload := [], payloadOk := true } } } := by
  simp only [scanHeaderGood, hl, if_true]

/-- A header that matches, with a length above 0, opens a payload (R197). -/
theorem scanHeaderGood_data {m : Nat} {rx : Rx} (hl : rx.headerLen ≠ 0) :
    scanHeaderGood m rx = .quiet { rx with
      len := rx.headerLen, state := .data, index := 0, dcrc := crc16Init
      keep := decide (rx.headerLen.toNat ≤ m), buf := [] } := by
  simp only [scanHeaderGood, if_neg hl]

/-- Payload octets are summed, and stored if they are kept (R198). -/
theorem scan_data_payload {m : Nat} {rx : Rx} {b : Byte} (hs : rx.state = .data)
    (hi : rx.index.toNat < rx.len.toNat) :
    scan m rx b = .quiet { rx with
      index := rx.index + 1, dcrc := crc16Step b rx.dcrc, buf := if rx.keep then rx.buf ++ [b] else rx.buf } := by
  simp only [scan, hs, scanData, if_pos hi]

/-- The low checksum octet follows the payload (R198). -/
theorem scan_data_crcLo {m : Nat} {rx : Rx} {b : Byte} (hs : rx.state = .data)
    (hi : rx.index.toNat = rx.len.toNat) :
    scan m rx b = .quiet { rx with index := rx.index + 1, crcLo := b } := by
  have hge : ¬ rx.index.toNat < rx.len.toNat := by omega
  simp only [scan, hs, scanData, if_neg hge, if_pos hi]

/-- The high checksum octet completes the frame (R198). -/
theorem scan_data_crcHi {m : Nat} {rx : Rx} {b : Byte} (hs : rx.state = .data)
    (hi : rx.index.toNat = rx.len.toNat + 1) :
    scan m rx b = complete { rx with index := rx.index + 1, crcHi := b, state := .hunt } := by
  have hge : ¬ rx.index.toNat < rx.len.toNat := by omega
  have hne : rx.index.toNat ≠ rx.len.toNat := by omega
  simp only [scan, hs, scanData, if_neg hge, if_neg hne]

/-- A completed frame counts an oversize payload, or else a checksum that fails (R199). -/
theorem scanned_complete (c : Counters) (rx : Rx) :
    c.scanned (complete rx).counted = { c with
      oversize := if rx.keep then c.oversize else c.oversize + 1
      payloadCrc := if rx.keep = true ∧ joinLE16 rx.crcLo rx.crcHi ≠ ~~~ rx.dcrc then c.payloadCrc + 1
        else c.payloadCrc } := by
  cases hk : rx.keep
  case false => simp [complete, hk, Counters.scanned]
  case true =>
    by_cases hc : joinLE16 rx.crcLo rx.crcHi = ~~~ rx.dcrc <;> simp [complete, hk, hc, Counters.scanned]

/-! ## What an admitted OCTET with nothing to abort leaves in the receiver, the counters and `INQ` -/

/-- What the step of an OCTET at time `t` makes of `s`, when its scan gives `r` (R194, R195): neither the evaluation
nor a frame handler touches the receiver, and beside the scan's own counter only the completed frame, its handler
and a transmission count. -/
structure OctetDone (t : Time) (r : ScanResult) (s s' : State) : Prop where
  now : s'.timing.now = t
  rxLast : s'.timing.rxLast = t
  rx : s'.rx = r.rx
  responses : s'.responses = s.responses ++ [{ port := .lineRx, result := .ok, entry := none }]
  inq : r.frame = none → s'.inq = s.inq
  cnt : r.frame = none →
    { s'.cnt with framesTx := (s.cnt.scanned r.counted).framesTx } = s.cnt.scanned r.counted
  cntFrame : r.frame ≠ none →
    { s'.cnt with
      framesTx := (s.cnt.scanned r.counted).framesTx
      anomaly := (s.cnt.scanned r.counted).anomaly
      inqOverflow := (s.cnt.scanned r.counted).inqOverflow } = (s.cnt.scanned r.counted).bump .framesRx

/-- What a frame handler and the evaluation after it keep between them (R245, R290). -/
structure HandledKeeps (s s' : State) : Prop where
  now : s'.timing.now = s.timing.now
  rxLast : s'.timing.rxLast = s.timing.rxLast
  rx : s'.rx = s.rx
  responses : s'.responses = s.responses
  cnt : { s'.cnt with
    framesTx := s.cnt.framesTx, anomaly := s.cnt.anomaly, inqOverflow := s.cnt.inqOverflow } = s.cnt

theorem handled_keeps (s0 : RingState) (f : RxFrame) (s : State) :
    HandledKeeps s (evaluateIfSame s0 (frameHandler f s)) := by
  have hh := frameHandler_keeps f s
  have he := evaluateIfSame_keeps s0 (frameHandler f s)
  constructor
  case now => exact he.now.trans hh.now
  case rxLast => exact he.rxLast.trans hh.rxLast
  case rx => exact he.rx.trans hh.rx
  case responses => exact he.responses.trans hh.responses
  case cnt =>
    have hcnt := hh.cnt
    rw [← he.cnt] at hcnt
    exact congrArg (fun c : Counters => { c with framesTx := s.cnt.framesTx }) hcnt

/-- An admitted OCTET with nothing to abort does what its scan says. -/
theorem octet_done {t : Time} {b : Byte} {s : State} {r : ScanResult} (hq : Quiet t s)
    (hr : scan s.build.maxPayload s.rx b = r) : OctetDone t r s (eventStep .lineRx t (octetAction b) s) := by
  subst hr
  rw [eventStep_quiet _ _ _ _ hq]
  cases hf : (scan s.build.maxPayload s.rx b).frame with
  | none =>
    rw [octetAction_none b (setNow t s) hf]
    have hk := evaluateIfSame_keeps s.ring.state
    constructor
    case now => exact (hk _).now
    case rxLast => exact (hk _).rxLast
    case rx => exact (hk _).rx
    case responses => exact congrArg (· ++ _) (hk _).responses
    case inq => exact fun _ => (hk _).inq
    case cnt => exact fun _ => (hk _).cnt
    case cntFrame => exact fun h => absurd hf h
  | some f =>
    have no_frame : (scan s.build.maxPayload s.rx b).frame ≠ none := by simp [hf]
    rw [octetAction_some b (setNow t s) f hf]
    have hk := handled_keeps s.ring.state f
    constructor
    case now => exact (hk _).now
    case rxLast => exact (hk _).rxLast
    case rx => exact (hk _).rx
    case responses => exact congrArg (· ++ _) (hk _).responses
    case inq => exact fun h => absurd h no_frame
    case cnt => exact fun h => absurd h no_frame
    case cntFrame => exact fun _ => (hk _).cnt

/-- What a scan that completes no frame and counts nothing leaves alone. -/
theorem OctetDone.quiet {t : Time} {rx : Rx} {s s' : State} (h : OctetDone t (.quiet rx) s s') :
    s'.rx = rx ∧ { s'.cnt with framesTx := s.cnt.framesTx } = s.cnt ∧ s'.inq = s.inq :=
  ⟨h.rx, h.cnt rfl, h.inq rfl⟩

/-! ## The obligations -/

/-- Settles O29: in either state the scan is quiet, so the step writes the receiver and the timing registers alone. -/
theorem octetSearchesForThePattern : Obligations.OctetSearchesForThePattern := by
  intro s t b hq hstate
  refine ⟨eventStep .lineRx t (octetAction b) s, rfl, (octet_done hq rfl).now, (octet_done hq rfl).rxLast, ?_⟩
  rcases hstate with hs | hs
  · have hd := octet_done (b := b) hq (scan_hunt hs)
    obtain ⟨hrx, hcnt, hinq⟩ := hd.quiet
    exact ⟨by simpa [hs] using hrx, hinq, hcnt, hd.responses⟩
  · have hd := octet_done (b := b) hq (scan_preamble hs)
    obtain ⟨hrx, hcnt, hinq⟩ := hd.quiet
    exact ⟨by simpa [hs] using hrx, hinq, hcnt, hd.responses⟩

/-- Settles O30: a header octet is covered, or it is the checksum, which fails, completes an empty frame, or opens
the payload. -/
theorem octetCollectsAndChecksTheHeader : Obligations.OctetCollectsAndChecksTheHeader := by
  intro s t b hq hs _
  refine ⟨eventStep .lineRx t (octetAction b) s, rfl, (octet_done hq rfl).rxLast, ?covered, ?mismatch, ?empty, ?data⟩
  case covered => exact fun hi => (octet_done hq (scan_header_covered hs hi)).quiet
  case mismatch =>
    intro hi hb
    have hd := octet_done hq (scan_header_mismatch hs hi hb)
    exact ⟨hd.rx, hd.cnt rfl, hd.inq rfl⟩
  case empty =>
    intro hi hb hl
    have hscan := (scan_header_match (m := s.build.maxPayload) hs hi hb).trans (scanHeaderGood_empty hl)
    have hd := octet_done hq hscan
    exact ⟨congrArg ScanResult.frame hscan, hd.rx, congrArg Counters.framesRx (hd.cntFrame (by simp))⟩
  case data =>
    exact fun hi hb hl => (octet_done hq ((scan_header_match hs hi hb).trans (scanHeaderGood_data hl))).quiet

/-- Settles O31: a payload octet and the low checksum octet are quiet, and the high one completes the frame. -/
theorem octetCollectsAndChecksThePayload : Obligations.OctetCollectsAndChecksThePayload := by
  intro s t b hq hs _
  refine ⟨eventStep .lineRx t (octetAction b) s, rfl, (octet_done hq rfl).rxLast, ?payload, ?crcLo, ?crcHi⟩
  case payload => exact fun hi => (octet_done hq (scan_data_payload hs hi)).quiet
  case crcLo => exact fun hi => (octet_done hq (scan_data_crcLo hs hi)).quiet
  case crcHi =>
    intro hi
    have hscan := scan_data_crcHi (m := s.build.maxPayload) (b := b) hs hi
    have hd := octet_done hq hscan
    have completed := hd.cntFrame (by simp [complete])
    rw [scanned_complete] at completed
    exact ⟨congrArg ScanResult.frame hscan, hd.rx, congrArg Counters.framesRx completed,
      congrArg Counters.oversize completed, congrArg Counters.payloadCrc completed⟩

end Sys2Proof.Machine
end

section
/-! PROOF. The evaluation rules of the nine states, and a TICK in each of them (O19 to O26). -/

namespace Sys2Proof.Machine

/-! ## The entry actions and the transmission, written in the registers -/

section RegisterEquations

variable (s : State)

/-- R251. -/
theorem enterIdle_eq :
    enterIdle s = { s with
      ring := { s.ring with state := .idle, idleRespKind := .none }
      timing := { s.timing with tsNoToken := s.timing.now } } := rfl

/-- R252. -/
theorem enterUseToken_eq :
    enterUseToken s = { s with
      ring := { s.ring with state := .useToken, frameCount := 0 }
      timing := { s.timing with tsUsage := s.timing.now } } := rfl

/-- R253. -/
theorem enterWaitForReply_eq :
    enterWaitForReply s = { s with
      ring := { s.ring with state := .waitForReply }
      timing := { s.timing with tsReply := s.timing.now } } := rfl

/-- R254. -/
theorem enterPollForMaster_eq :
    enterPollForMaster s = { s with
      ring := { s.ring with
        state := .pollForMaster, pollStation := succ s.cfg s.cfg.thisStation, pfmSent := false }
      timing := { s.timing with tsNoToken := s.timing.now } } := rfl

/-- R256. -/
theorem enterAnswer_eq (src : Addr) :
    enterAnswer src s = { s with
      ring := { s.ring with state := .answerDataRequest, replyTo := src, replyValid := false }
      timing := { s.timing with tsReplyDelay := s.timing.now } } := rfl

/-- R284. -/
theorem promote_eq :
    promote s = { s with
      ring := { s.ring with
        soleMaster := true, nextStation := s.cfg.thisStation, state := .useToken, frameCount := 0 }
      timing := { s.timing with tsUsage := s.timing.now } } := rfl

/-- R220. -/
theorem tx_eq (ty dest : Byte) (p : Octets) :
    tx ty dest p s = { s with
      lineTx := s.lineTx ++ [{ time := s.timing.now, octets := encodeFrame ty dest s.cfg.thisStation p }]
      cnt := { s.cnt with framesTx := s.cnt.framesTx + 1 } } := rfl

/-- R276: `TOKEN_COUNT` saturates, so the guarded increment is a minimum. -/
theorem bumpTokenCount_eq :
    bumpTokenCount s = { s with
      ring := { s.ring with tokenCount := BitVec.ofNat 8 (min 255 (s.ring.tokenCount.toNat + 1)) } } := by
  have saturates : (if s.ring.tokenCount = 255 then 255 else s.ring.tokenCount + 1) =
      BitVec.ofNat 8 (min 255 (s.ring.tokenCount.toNat + 1)) := by
    split <;> bv_omega
  rw [bumpTokenCount, saturates]

/-- R282, R283. -/
theorem sendProbe_eq :
    sendProbe s = { s with
      lineTx := s.lineTx ++
        [{ time := s.timing.now, octets := encodeFrame 1 s.ring.pollStation s.cfg.thisStation [] }]
      cnt := { s.cnt with framesTx := s.cnt.framesTx + 1 }
      timing := { s.timing with tsPoll := s.timing.now } } := rfl

/-- R286, R287. -/
theorem sendReply_eq :
    sendReply s = { s with
      lineTx := s.lineTx ++
        [{ time := s.timing.now, octets := encodeFrame 6 s.ring.replyTo s.cfg.thisStation s.ring.replyPayload }]
      cnt := { s.cnt with framesTx := s.cnt.framesTx + 1 }
      ring := { s.ring with replyValid := false, state := .idle, idleRespKind := .none }
      timing := { s.timing with tsNoToken := s.timing.now } } := rfl

end RegisterEquations

/-! ## What each evaluation rule does (R258 to R287)

An equation per rule, its guard written in the registers, in the firing order of R246. -/

section EvaluationRules

variable {s : State}

/-! INITIALIZE (R258) and NO_TOKEN (R278). -/

theorem evaluate_init_expired (hs : s.ring.state = .init)
    (he : s.cfg.tNoToken.setWidth 64 ≤ s.timing.now - s.timing.tsNoToken) : evaluate s = enterIdle s := by
  simp only [evaluate, hs, evalInitialize, expired_iff, start_noToken, he, if_true]

theorem evaluate_init_holds (hs : s.ring.state = .init)
    (he : ¬ s.cfg.tNoToken.setWidth 64 ≤ s.timing.now - s.timing.tsNoToken) : evaluate s = s := by
  simp only [evaluate, hs, evalInitialize, expired_iff, start_noToken, he, if_false]

theorem evaluate_noToken_expired (hs : s.ring.state = .noToken)
    (he : s.cfg.tNoToken.setWidth 64 ≤ s.timing.now - s.timing.tsNoToken) : evaluate s = enterPollForMaster s := by
  simp only [evaluate, hs, evalNoToken, expired_iff, start_noToken, he, if_true]

theorem evaluate_noToken_holds (hs : s.ring.state = .noToken)
    (he : ¬ s.cfg.tNoToken.setWidth 64 ≤ s.timing.now - s.timing.tsNoToken) : evaluate s = s := by
  simp only [evaluate, hs, evalNoToken, expired_iff, start_noToken, he, if_false]

/-! IDLE (R260). -/

theorem evaluate_idle_sends_rpfm (hs : s.ring.state = .idle) (ho : s.ring.idleRespKind = .rpfm)
    (ht : s.tTurnaround ≤ s.timing.now - s.timing.rxLast) :
    evaluate s = clearIdleResponse (tx tagRpfm s.ring.idleRespDest [] s) := by
  simp [evaluate, hs, evalIdle, sendIdleResponse, ho, turnaroundOk_iff, ht]

theorem evaluate_idle_sends_testResponse (hs : s.ring.state = .idle) (ho : s.ring.idleRespKind = .testResponse)
    (ht : s.tTurnaround ≤ s.timing.now - s.timing.rxLast) :
    evaluate s = clearIdleResponse (tx tagTestResponse s.ring.idleRespDest s.ring.idleRespPayload s) := by
  simp [evaluate, hs, evalIdle, sendIdleResponse, ho, turnaroundOk_iff, ht]

theorem evaluate_idle_owing_holds (hs : s.ring.state = .idle) (ho : s.ring.idleRespKind ≠ .none)
    (ht : ¬ s.tTurnaround ≤ s.timing.now - s.timing.rxLast) : evaluate s = s := by
  simp only [evaluate, hs, evalIdle, ho, turnaroundOk_iff, ht, ne_eq, not_false_eq_true, if_true, if_false]

theorem evaluate_idle_expired (hs : s.ring.state = .idle) (ho : s.ring.idleRespKind = .none)
    (he : s.cfg.tNoToken.setWidth 64 ≤ s.timing.now - s.timing.tsNoToken) : evaluate s = enterPollForMaster s := by
  simp [evaluate, hs, evalIdle, ho, expired_iff, he]

theorem evaluate_idle_holds (hs : s.ring.state = .idle) (ho : s.ring.idleRespKind = .none)
    (he : ¬ s.cfg.tNoToken.setWidth 64 ≤ s.timing.now - s.timing.tsNoToken) : evaluate s = s := by
  simp only [evaluate, hs, evalIdle, ho, expired_iff, start_noToken, he, ne_eq, not_true_eq_false, if_false]

/-! USE_TOKEN (R264 to R268). -/

section
variable (hs : s.ring.state = .useToken)
include hs

theorem evaluate_useToken_expired (he : s.cfg.tUsageTimeout.setWidth 64 ≤ s.timing.now - s.timing.tsUsage) :
    evaluate s = setRingState .doneWithToken s := by
  simp only [evaluate, hs, evalUseToken, expired_iff, start_usage, he, if_true]

variable (he : ¬ s.cfg.tUsageTimeout.setWidth 64 ≤ s.timing.now - s.timing.tsUsage)
include he

theorem evaluate_useToken_limit (hl : s.cfg.nmaxInfoFrames.toNat ≤ s.ring.frameCount.toNat) :
    evaluate s = setRingState .doneWithToken s := by
  simp only [evaluate, hs, evalUseToken, expired_iff, start_usage, he, hl, if_true, if_false]

variable (hl : ¬ s.cfg.nmaxInfoFrames.toNat ≤ s.ring.frameCount.toNat)
include hl

theorem evaluate_useToken_empty (hq : s.outq = []) : evaluate s = setRingState .doneWithToken s := by
  simp only [evaluate, hs, evalUseToken, expired_iff, start_usage, he, hl, hq, qPop, if_false]

variable {e : OutEntry} {rest : List OutEntry} (hq : s.outq = e :: rest)
include hq

theorem evaluate_useToken_holds (ht : ¬ s.tTurnaround ≤ s.timing.now - s.timing.rxLast) : evaluate s = s := by
  simp only [evaluate, hs, evalUseToken, expired_iff, start_usage, he, hl, hq, qPop, turnaroundOk_iff, ht, if_false]

theorem evaluate_useToken_sends (ht : s.tTurnaround ≤ s.timing.now - s.timing.rxLast) :
    evaluate s = sendEntry e { s with outq := rest } := by
  simp only [evaluate, hs, evalUseToken, expired_iff, start_usage, he, hl, hq, qPop, turnaroundOk_iff, ht, if_true,
    if_false]

end

theorem sendEntry_request {e : OutEntry} (hr : e.expectsReply = true ∧ e.dest ≠ broadcast) :
    sendEntry e s = enterWaitForReply (bumpFrameCount (tx tagDer e.dest e.payload s)) := if_pos hr

theorem sendEntry_data {e : OutEntry} (hr : ¬ (e.expectsReply = true ∧ e.dest ≠ broadcast)) :
    sendEntry e s = bumpFrameCount (tx tagDner e.dest e.payload s) := if_neg hr

/-! WAIT_FOR_REPLY (R270). -/

theorem evaluate_waitForReply_expired (hs : s.ring.state = .waitForReply)
    (he : s.cfg.tReplyTimeout.setWidth 64 ≤ s.timing.now - s.timing.tsReply) :
    evaluate s = setRingState .doneWithToken s := by
  simp only [evaluate, hs, evalWaitForReply, expired_iff, start_reply, he, if_true]

theorem evaluate_waitForReply_holds (hs : s.ring.state = .waitForReply)
    (he : ¬ s.cfg.tReplyTimeout.setWidth 64 ≤ s.timing.now - s.timing.tsReply) : evaluate s = s := by
  simp only [evaluate, hs, evalWaitForReply, expired_iff, start_reply, he, if_false]

/-! DONE_WITH_TOKEN (R274, R275). -/

theorem evaluate_doneWithToken_polls (hs : s.ring.state = .doneWithToken)
    (hn : s.cfg.npoll.toNat ≤ s.ring.tokenCount.toNat) :
    evaluate s = enterPollForMaster { s with ring := { s.ring with tokenCount := 0 } } := by
  simp only [evaluate, hs, evalDoneWithToken, hn, if_true]

theorem evaluate_doneWithToken_passes (hs : s.ring.state = .doneWithToken)
    (hn : ¬ s.cfg.npoll.toNat ≤ s.ring.tokenCount.toNat) : evaluate s = setRingState .passToken s := by
  simp only [evaluate, hs, evalDoneWithToken, hn, if_false]

/-! PASS_TOKEN (R276). -/

theorem evaluate_passToken_holds (hs : s.ring.state = .passToken)
    (ht : ¬ s.tTurnaround ≤ s.timing.now - s.timing.rxLast) : evaluate s = s := by
  simp only [evaluate, hs, evalPassToken, turnaroundOk_iff, ht, if_false]

theorem evaluate_passToken_to_self (hs : s.ring.state = .passToken)
    (ht : s.tTurnaround ≤ s.timing.now - s.timing.rxLast) (hn : s.ring.nextStation = s.cfg.thisStation) :
    evaluate s = enterUseToken (bumpTokenCount (tx tagToken s.ring.nextStation [] s)) := by
  simp [evaluate, hs, evalPassToken, turnaroundOk_iff, ht, hn]

theorem evaluate_passToken_to_other (hs : s.ring.state = .passToken)
    (ht : s.tTurnaround ≤ s.timing.now - s.timing.rxLast) (hn : s.ring.nextStation ≠ s.cfg.thisStation) :
    evaluate s = enterIdle (bumpTokenCount (tx tagToken s.ring.nextStation [] s)) := by
  simp [evaluate, hs, evalPassToken, turnaroundOk_iff, ht, hn]

/-! POLL_FOR_MASTER (R280 to R284). -/

theorem setPfmSent_of_eq {v : Bool} (h : s.ring.pfmSent = v) : setPfmSent v s = s := by
  subst h; rfl

section
variable (hs : s.ring.state = .pollForMaster)
include hs

theorem evaluate_poll_expired (he : s.cfg.tNoToken.setWidth 64 ≤ s.timing.now - s.timing.tsNoToken) :
    evaluate s = enterIdle s := by
  simp only [evaluate, hs, evalPollForMaster, expired_iff, start_noToken, he, if_true]

variable (he : ¬ s.cfg.tNoToken.setWidth 64 ≤ s.timing.now - s.timing.tsNoToken)
include he

section
variable (hp : s.ring.pfmSent = false)
include hp

theorem evaluate_poll_promotes (ho : s.ring.pollStation = s.cfg.thisStation) : evaluate s = promote s := by
  simp [evaluate, hs, evalPollForMaster, expired_iff, he, hp, ho]

theorem evaluate_poll_probes (ho : s.ring.pollStation ≠ s.cfg.thisStation)
    (ht : s.tTurnaround ≤ s.timing.now - s.timing.rxLast) : evaluate s = setPfmSent true (sendProbe s) := by
  simp [evaluate, hs, evalPollForMaster, expired_iff, turnaroundOk_iff, he, hp, ho, ht]

theorem evaluate_poll_holds (ho : s.ring.pollStation ≠ s.cfg.thisStation)
    (ht : ¬ s.tTurnaround ≤ s.timing.now - s.timing.rxLast) : evaluate s = s := by
  simp only [evaluate, hs, evalPollForMaster, expired_iff, start_noToken, turnaroundOk_iff, he, hp, ho, ht,
    Bool.false_eq_true, if_false]

end

variable (hp : s.ring.pfmSent = true)
include hp

theorem evaluate_poll_waits (hw : ¬ s.cfg.tPollTimeout.setWidth 64 ≤ s.timing.now - s.timing.tsPoll) :
    evaluate s = s := by
  simp only [evaluate, hs, evalPollForMaster, expired_iff, start_noToken, start_poll, he, hp, hw, if_true, if_false]

variable (hw : s.cfg.tPollTimeout.setWidth 64 ≤ s.timing.now - s.timing.tsPoll)
include hw

/-- f4: a probe unanswered for `T_poll_timeout` moves the sweep on. -/
theorem evaluate_poll_advances : evaluate s = nextProbe s := by
  simp only [evaluate, hs, evalPollForMaster, expired_iff, start_noToken, start_poll, he, hp, hw, if_true, if_false]

end

/-- The state in which f4 has moved to the next address of the sweep (R283). -/
def advancePoll (s : State) : State :=
  { s with ring := { s.ring with pollStation := succ s.cfg s.ring.pollStation } }

theorem nextProbe_promotes (ho : succ s.cfg s.ring.pollStation = s.cfg.thisStation) :
    nextProbe s = promote (setPfmSent false (advancePoll s)) := if_pos ho

theorem nextProbe_probes (ho : succ s.cfg s.ring.pollStation ≠ s.cfg.thisStation)
    (ht : s.tTurnaround ≤ s.timing.now - s.timing.rxLast) : nextProbe s = sendProbe (advancePoll s) :=
  (if_neg ho).trans (if_pos ((turnaroundOk_iff (advancePoll s)).mpr ht))

theorem nextProbe_pauses (ho : succ s.cfg s.ring.pollStation ≠ s.cfg.thisStation)
    (ht : ¬ s.tTurnaround ≤ s.timing.now - s.timing.rxLast) : nextProbe s = setPfmSent false (advancePoll s) :=
  (if_neg ho).trans (if_neg (mt (turnaroundOk_iff (advancePoll s)).mp ht))

/-! ANSWER_DATA_REQUEST (R286, R287). -/

/-- The two readings of the reply delay in one equation: under MINIMUM the delay also holds a reply back, and the
deadline is the reply timeout. -/
theorem evaluate_answer (hs : s.ring.state = .answerDataRequest)
    (hr : s.cfg.replyDelaySemantics = .maximum ∨ s.cfg.replyDelaySemantics = .minimum) :
    evaluate s =
      if s.ring.replyValid = true then
        if s.tTurnaround ≤ s.timing.now - s.timing.rxLast ∧
            (s.cfg.replyDelaySemantics = .maximum ∨
              s.cfg.tReplyDelay.setWidth 64 ≤ s.timing.now - s.timing.tsReplyDelay) then sendReply s
        else s
      else if
          (s.cfg.replyDelaySemantics = .maximum ∧
            s.cfg.tReplyDelay.setWidth 64 ≤ s.timing.now - s.timing.tsReplyDelay) ∨
          (s.cfg.replyDelaySemantics = .minimum ∧
            s.cfg.tReplyTimeout.setWidth 64 ≤ s.timing.now - s.timing.tsReplyDelay) then enterIdle s
      else s := by
  rcases hr with hr | hr
  · simp [evaluate, hs, evalAnswer, hr, evalAnswerMaximum, expired_iff, turnaroundOk_iff]
  · simp [evaluate, hs, evalAnswer, hr, evalAnswerMinimum, expired_iff, turnaroundOk_iff]

end EvaluationRules

/-! ## The obligations -/

/-- A TICK with nothing to abort is the evaluation at its time (R248), and the port is returned OK. -/
theorem tick_evaluates {t : Time} {s s' : State} (hq : Quiet t s)
    (he : evaluate (setNow t s) = s') :
    exec (.tick t) s = .next { s' with
      responses := s'.responses ++ [{ port := .clock, result := .ok, entry := none }] } := by
  rw [tick_quiet t s hq, he]
  rfl

/-- Settles O19: z1 and n1 fire after `T_no_token` of silence, and nothing else does. -/
theorem tickInInitializeAndNoToken : Obligations.TickInInitializeAndNoToken := by
  constructor
  · intro s t hq hs
    by_cases he : s.cfg.tNoToken.setWidth 64 ≤ t - s.timing.tsNoToken
    · rw [tick_evaluates hq (evaluate_init_expired hs he)]
      simp only [if_pos he, enterIdle_eq, setNow]
    · rw [tick_evaluates hq (evaluate_init_holds hs he)]
      simp only [if_neg he, setNow]
  · intro s t hq hs
    by_cases he : s.cfg.tNoToken.setWidth 64 ≤ t - s.timing.tsNoToken
    · rw [tick_evaluates hq (evaluate_noToken_expired hs he)]
      simp only [if_pos he, enterPollForMaster_eq, setNow]
    · rw [tick_evaluates hq (evaluate_noToken_holds hs he)]
      simp only [if_neg he, setNow]

/-- Settles O20: an owed response waits for the turnaround, and only with none owed does the no-token rule fire. -/
theorem tickInIdle : Obligations.TickInIdle := by
  intro s t hq hs
  by_cases ho : s.ring.idleRespKind = .none
  · by_cases he : s.cfg.tNoToken.setWidth 64 ≤ t - s.timing.tsNoToken
    · rw [tick_evaluates hq (evaluate_idle_expired hs ho he)]
      simp only [if_pos ho, if_pos he, enterPollForMaster_eq, setNow]
    · rw [tick_evaluates hq (evaluate_idle_holds hs ho he)]
      simp only [if_pos ho, if_neg he, setNow]
  · by_cases ht : s.tTurnaround ≤ t - s.timing.rxLast
    · cases hk : s.ring.idleRespKind with
      | none => exact absurd hk ho
      | rpfm =>
        rw [tick_evaluates hq (evaluate_idle_sends_rpfm hs hk ht)]
        simp only [hk, ht, reduceCtorEq, if_true, if_false, tx_eq, clearIdleResponse, tagRpfm, setNow]
      | testResponse =>
        rw [tick_evaluates hq (evaluate_idle_sends_testResponse hs hk ht)]
        simp only [hk, ht, reduceCtorEq, if_true, if_false, tx_eq, clearIdleResponse, tagTestResponse, setNow]
    · rw [tick_evaluates hq (evaluate_idle_owing_holds hs ho ht)]
      simp only [if_neg ho, if_neg ht, setNow]

/-- Settles O21: u1 to u5 in firing order. -/
theorem tickInUseToken : Obligations.TickInUseToken := by
  intro s t hq hs
  by_cases he : s.cfg.tUsageTimeout.setWidth 64 ≤ t - s.timing.tsUsage
  · rw [tick_evaluates hq (evaluate_useToken_expired hs he)]
    simp only [if_pos he, setRingState, setNow]
  by_cases hl : s.cfg.nmaxInfoFrames.toNat ≤ s.ring.frameCount.toNat
  · rw [tick_evaluates hq (evaluate_useToken_limit hs he hl)]
    simp only [if_neg he, if_pos hl, setRingState, setNow]
  cases ho : s.outq with
  | nil =>
    rw [tick_evaluates hq (evaluate_useToken_empty hs he hl ho)]
    simp only [if_neg he, if_neg hl, setRingState, setNow]
    rw [← ho]
  | cons e rest =>
    by_cases ht : s.tTurnaround ≤ t - s.timing.rxLast
    · rw [tick_evaluates hq (evaluate_useToken_sends (s := setNow t s) hs he hl ho ht)]
      by_cases hr : e.expectsReply = true ∧ e.dest ≠ broadcast
      · rw [sendEntry_request hr]
        simp only [if_neg he, if_neg hl, if_neg (not_not_intro ht), if_pos hr, tx_eq, bumpFrameCount,
          enterWaitForReply_eq, tagDer, setNow]
      · rw [sendEntry_data hr]
        simp only [if_neg he, if_neg hl, if_neg (not_not_intro ht), if_neg hr, tx_eq, bumpFrameCount, tagDner, setNow]
    · rw [tick_evaluates hq (evaluate_useToken_holds hs he hl ho ht)]
      simp only [if_neg he, if_neg hl, if_pos ht, setNow]
      rw [← ho]

/-- Settles O22: w1, or the wait goes on. -/
theorem tickInWaitForReply : Obligations.TickInWaitForReply := by
  intro s t hq hs
  by_cases he : s.cfg.tReplyTimeout.setWidth 64 ≤ t - s.timing.tsReply
  · rw [tick_evaluates hq (evaluate_waitForReply_expired hs he)]
    simp only [if_pos he, setRingState, setNow]
  · rw [tick_evaluates hq (evaluate_waitForReply_holds hs he)]
    simp only [if_neg he, ← hs, setNow]

/-- Settles O23: d1, else d2. -/
theorem tickInDoneWithToken : Obligations.TickInDoneWithToken := by
  intro s t hq hs
  by_cases hn : s.cfg.npoll.toNat ≤ s.ring.tokenCount.toNat
  · rw [tick_evaluates hq (evaluate_doneWithToken_polls hs hn)]
    simp only [if_pos hn, enterPollForMaster_eq, setNow]
  · rw [tick_evaluates hq (evaluate_doneWithToken_passes hs hn)]
    simp only [if_neg hn, setRingState, setNow]

/-- Settles O24: p1 for this station and for another, else p2. -/
theorem tickInPassToken : Obligations.TickInPassToken := by
  intro s t hq hs
  by_cases ht : s.tTurnaround ≤ t - s.timing.rxLast
  · by_cases hn : s.ring.nextStation = s.cfg.thisStation
    · rw [tick_evaluates hq (evaluate_passToken_to_self hs ht hn)]
      simp only [if_pos ht, if_pos hn, tx_eq, bumpTokenCount_eq, enterUseToken_eq, tagToken, setNow]
    · rw [tick_evaluates hq (evaluate_passToken_to_other hs ht hn)]
      simp only [if_pos ht, if_neg hn, tx_eq, bumpTokenCount_eq, enterIdle_eq, tagToken, setNow]
  · rw [tick_evaluates hq (evaluate_passToken_holds hs ht)]
    simp only [if_neg ht, setNow]

/-- Settles O25: f1 to f4 in firing order, the promotion in f2 and at the end of f4. -/
theorem tickInPollForMaster : Obligations.TickInPollForMaster := by
  intro s t hq hs
  by_cases he : s.cfg.tNoToken.setWidth 64 ≤ t - s.timing.tsNoToken
  · rw [tick_evaluates hq (evaluate_poll_expired hs he)]
    simp only [he, if_true, enterIdle_eq, setNow]
  cases hp : s.ring.pfmSent with
  | false =>
    have unsent : setPfmSent false (setNow t s) = setNow t s := setPfmSent_of_eq hp
    by_cases ho : s.ring.pollStation = s.cfg.thisStation
    · rw [tick_evaluates hq (evaluate_poll_promotes hs he hp ho), ← unsent]
      simp only [if_neg he, if_pos hp, if_pos ho, promote_eq, setPfmSent, setNow]
    by_cases ht : s.tTurnaround ≤ t - s.timing.rxLast
    · rw [tick_evaluates hq (evaluate_poll_probes hs he hp ho ht)]
      simp only [if_neg he, if_pos hp, if_neg ho, if_pos ht, sendProbe_eq, setPfmSent, setNow]
    · rw [tick_evaluates hq (evaluate_poll_holds hs he hp ho ht)]
      simp only [if_neg he, if_pos hp, if_neg ho, if_neg ht, setNow]
  | true =>
    have sent : ¬ s.ring.pfmSent = false := by simp [hp]
    by_cases hw : s.cfg.tPollTimeout.setWidth 64 ≤ t - s.timing.tsPoll
    · rw [tick_evaluates hq (evaluate_poll_advances hs he hp hw)]
      by_cases ho : succ s.cfg s.ring.pollStation = s.cfg.thisStation
      · rw [nextProbe_promotes (s := setNow t s) ho]
        simp only [if_neg he, if_neg sent, if_pos hw, if_pos ho, promote_eq, setPfmSent, advancePoll, setNow]
      by_cases ht : s.tTurnaround ≤ t - s.timing.rxLast
      · have in_flight : setPfmSent true (setNow t s) = setNow t s := setPfmSent_of_eq hp
        rw [nextProbe_probes (s := setNow t s) ho ht, ← in_flight]
        simp only [if_neg he, if_neg sent, if_pos hw, if_neg ho, if_pos ht, sendProbe_eq, setPfmSent,
          advancePoll, setNow]
      · rw [nextProbe_pauses (s := setNow t s) ho ht]
        simp only [if_neg he, if_neg sent, if_pos hw, if_neg ho, if_neg ht, setPfmSent, advancePoll, setNow]
    · rw [tick_evaluates hq (evaluate_poll_waits hs he hp hw)]
      simp only [if_neg he, if_neg sent, if_neg hw, setNow]

/-- Settles O26: a held reply is sent or held back, and without one the deadline decides, under either reading. -/
theorem tickInAnswerDataRequest : Obligations.TickInAnswerDataRequest := by
  intro s t hq hs hr
  have answer := evaluate_answer (s := setNow t s) hs hr
  by_cases hv : s.ring.replyValid = true
  · by_cases send : s.tTurnaround ≤ t - s.timing.rxLast ∧
        (s.cfg.replyDelaySemantics = .maximum ∨ s.cfg.tReplyDelay.setWidth 64 ≤ t - s.timing.tsReplyDelay)
    · rw [tick_evaluates hq (answer.trans ((if_pos hv).trans (if_pos send)))]
      simp only [if_pos hv, if_pos send, sendReply_eq, setNow]
    · rw [tick_evaluates hq (answer.trans ((if_pos hv).trans (if_neg send)))]
      simp only [if_pos hv, if_neg send, setNow]
  · by_cases late :
        (s.cfg.replyDelaySemantics = .maximum ∧ s.cfg.tReplyDelay.setWidth 64 ≤ t - s.timing.tsReplyDelay) ∨
        (s.cfg.replyDelaySemantics = .minimum ∧ s.cfg.tReplyTimeout.setWidth 64 ≤ t - s.timing.tsReplyDelay)
    · rw [tick_evaluates hq (answer.trans ((if_neg hv).trans (if_pos late)))]
      simp only [if_neg hv, if_pos late, enterIdle_eq, setNow]
    · rw [tick_evaluates hq (answer.trans ((if_neg hv).trans (if_neg late)))]
      simp only [if_neg hv, if_neg late, setNow]

end Sys2Proof.Machine
end

section
/-! PROOF. The received frame types in every ring state (O39 to O46). -/

namespace Sys2Proof.Machine

/-! ## The dispatch of a frame (R290 to R294) -/

section FrameRules

variable {tag : Byte} {f : Received} {inIdle inPoll : State → State} {s : State}

theorem frameInState_idle (hs : s.ring.state = .idle) : frameInState tag f inIdle inPoll s = inIdle s := by
  simp only [frameInState, hs]

theorem frameInState_pollForMaster (hs : s.ring.state = .pollForMaster) :
    frameInState tag f inIdle inPoll s = inPoll s := by
  simp only [frameInState, hs]

theorem frameInState_waitForReply (hs : s.ring.state = .waitForReply) :
    frameInState tag f inIdle inPoll s = waitForReplyFrame tag f s := by
  simp only [frameInState, hs]

/-- A frame is ignored outside WAIT_FOR_REPLY unless the rules of IDLE or of POLL_FOR_MASTER act on it (R290). -/
theorem frameInState_ignored (hw : s.ring.state ≠ .waitForReply) (hi : s.ring.state = .idle → inIdle s = s)
    (hp : s.ring.state = .pollForMaster → inPoll s = s) : frameInState tag f inIdle inPoll s = s := by
  cases hs : s.ring.state with
  | waitForReply => exact absurd hs hw
  | idle => rw [frameInState_idle hs, hi hs]
  | pollForMaster => rw [frameInState_pollForMaster hs, hp hs]
  | init | useToken | doneWithToken | passToken | noToken | answerDataRequest => simp only [frameInState, hs]

/-- `WfrReject()` (R293), written in the registers. -/
theorem wfrReject_eq (s : State) :
    wfrReject s = { s with
      cnt := { s.cnt with anomaly := s.cnt.anomaly + 1 }
      ring := { s.ring with state := .idle, idleRespKind := .none }
      timing := { s.timing with tsNoToken := s.timing.now } } := rfl

/-- `WfrAccept(f)` (R293), written in the registers; delivery leaves the ring registers alone. -/
theorem wfrAccept_eq (f : Received) (s : State) :
    wfrAccept f s = { deliverIfGood f s with ring := { s.ring with state := .doneWithToken } } := by
  rw [wfrAccept, setRingState, deliverIfGood_ring]

/-- The reject set is the four lowest tags (R147). -/
theorem mem_rejectSet : tag ∈ rejectSet ↔ tag = 0 ∨ tag = 1 ∨ tag = 2 ∨ tag = 3 := by
  simp [rejectSet]

/-- A frame of the reject set surrenders the token in WAIT_FOR_REPLY (R294). -/
theorem frameInState_rejects (hs : s.ring.state = .waitForReply) (ht : tag ∈ rejectSet) :
    frameInState tag f inIdle inPoll s = wfrReject s :=
  (frameInState_waitForReply hs).trans (if_pos ht)

/-- Any other frame is the reply (R294). -/
theorem frameInState_accepts (hs : s.ring.state = .waitForReply) (ht : tag ∉ rejectSet) :
    frameInState tag f inIdle inPoll s = wfrAccept f s :=
  (frameInState_waitForReply hs).trans (if_neg ht)

theorem toMe_iff : toMe f s = true ↔ f.dest = s.cfg.thisStation := decide_eq_true_iff

end FrameRules

/-! ## Frames of the reject set: TOKEN, PFM, TEST_REQUEST, RPFM -/

/-- What a type of the reject set does whose one rule is about IDLE and its own address (R309, R310, R312). -/
theorem idleRequest_meaning {tag : Byte} (ht : tag ∈ rejectSet) (act : State → State) (f : Received) (s : State) :
    let handled : Host.Outcome State Fault Refusal :=
      .next (frameInState tag f (fun s => if toMe f s then act s else s) ignore s)
    (s.ring.state = .idle → f.dest = s.cfg.thisStation → handled = .next (act s)) ∧
    (s.ring.state = .waitForReply → handled = .next (wfrReject s)) ∧
    (s.ring.state ≠ .waitForReply → ¬ (s.ring.state = .idle ∧ f.dest = s.cfg.thisStation) → handled = .next s) := by
  refine ⟨fun hs hd => ?_, fun hs => ?_, fun hw hn => ?_⟩ <;> refine congrArg Host.Outcome.next ?_
  · exact (frameInState_idle hs).trans (if_pos (toMe_iff.mpr hd))
  · exact frameInState_rejects hs ht
  · exact frameInState_ignored hw (fun hs => if_neg fun hd => hn ⟨hs, toMe_iff.mp hd⟩) (fun _ => rfl)

/-- Settles O39: in IDLE the token is taken. -/
theorem tokenFrameMeaning : Obligations.TokenFrameMeaning :=
  idleRequest_meaning (tag := tagToken) (by decide) enterUseToken

/-- Settles O40: in IDLE an RPFM is owed. -/
theorem pfmFrameMeaning : Obligations.PfmFrameMeaning :=
  fun f => idleRequest_meaning (tag := tagPfm) (by decide) (owe .rpfm f.src []) f

/-- Settles O42: in IDLE a TEST_RESPONSE is owed, empty when the request's payload failed. -/
theorem testRequestFrameMeaning : Obligations.TestRequestFrameMeaning :=
  fun f => idleRequest_meaning (tag := tagTestRequest) (by decide)
    (owe .testResponse f.src (if f.payloadOk then f.payload else [])) f

/-- Settles O41: the one type whose rule is about POLL_FOR_MASTER. -/
theorem rpfmFrameMeaning : Obligations.RpfmFrameMeaning := by
  intro f s
  refine ⟨fun hs hd => ?_, fun hs => ?_, fun hw hn => ?_⟩ <;> refine congrArg Host.Outcome.next ?_
  · exact (frameInState_pollForMaster hs).trans (if_pos (toMe_iff.mpr hd))
  · exact frameInState_rejects hs (by decide)
  · exact frameInState_ignored hw (fun _ => rfl) (fun hs => if_neg fun hd => hn ⟨hs, toMe_iff.mp hd⟩)

/-! ## Frames that are replies in WAIT_FOR_REPLY -/

/-- A type without rules of its own is a reply in WAIT_FOR_REPLY and ignored elsewhere (R313, R316, R317). -/
theorem frameInState_ignore_eq {tag : Byte} (f : Received) (s : State) (ht : tag ∉ rejectSet) :
    frameInState tag f ignore ignore s = if s.ring.state = .waitForReply then wfrAccept f s else s := by
  by_cases hs : s.ring.state = .waitForReply
  · rw [if_pos hs, frameInState_accepts hs ht]
  · rw [if_neg hs, frameInState_ignored hs (fun _ => rfl) (fun _ => rfl)]

/-- An accepted reply by whether its payload is good and whether there is room (R291, R293, R375). -/
theorem wfrAccept_cases_eq (f : Received) (s : State) :
    wfrAccept f s =
      if f.len ≠ 0 ∧ f.payloadOk = true then
        if s.build.inqCap ≤ s.inq.length then { s with
          cnt := { s.cnt with inqOverflow := s.cnt.inqOverflow + 1 }
          ring := { s.ring with state := .doneWithToken } }
        else { s with
          inq := s.inq ++ [{ payload := f.payload, src := f.src }]
          ring := { s.ring with state := .doneWithToken } }
      else { s with ring := { s.ring with state := .doneWithToken } } := by
  rw [wfrAccept, deliverIfGood_eq]
  split
  · split <;> rfl
  · rfl

/-- Settles O43: the three types have no rules of their own, and none of their tags is in the reject set. -/
theorem otherTagsAreRepliesOrIgnored : Obligations.OtherTagsAreRepliesOrIgnored := by
  intro f tag s
  simp only [← wfrAccept_cases_eq]
  refine ⟨?testResponse, fun h7 _ => ?unrecognized, fun h80 => ?vendor⟩ <;>
    refine congrArg Host.Outcome.next (frameInState_ignore_eq f s ?_)
  case testResponse => decide
  case unrecognized => rw [mem_rejectSet]; bv_omega
  case vendor => rw [mem_rejectSet]; bv_omega

/-- The dispatch by type is the dispatch by tag in WAIT_FOR_REPLY: the tag a type keeps is the frame's own (R290). -/
theorem frameHandler_waitForReply {f : RxFrame} {s : State} (hs : s.ring.state = .waitForReply) :
    frameHandler f s = waitForReplyFrame f.tag f.body s := by
  have kept := FrameType.ofTag_tag f.tag
  cases hf : FrameType.ofTag f.tag
  all_goals
    rw [hf] at kept
    rw [← kept]
    simp only [frameHandler, hf]
    exact frameInState_waitForReply hs

theorem exec_ofFrame (f : RxFrame) (s : State) : exec (Instr.ofFrame f) s = .next (frameHandler f s) := by
  unfold Instr.ofFrame frameHandler
  cases FrameType.ofTag f.tag <;> rfl

/-- Settles O44: the tag alone chooses between `WfrReject` and `WfrAccept`. -/
theorem rejectListRule : Obligations.RejectListRule := by
  intro tag body s hs
  rw [exec_ofFrame, frameHandler_waitForReply hs, waitForReplyFrame]
  by_cases ht : tag ∈ rejectSet
  · rw [if_pos ht, wfrReject_eq]
    simp only [if_pos (mem_rejectSet.mp ht)]
  · rw [if_neg ht, wfrAccept_cases_eq]
    simp only [if_neg (mt mem_rejectSet.mpr ht)]

/-- Settles O45: in IDLE the destination decides, this station before broadcast. -/
theorem derFrameMeaning : Obligations.DerFrameMeaning := by
  intro f s
  simp only [← deliverIfGood_eq]
  refine ⟨fun hs hd => ?_, fun hs hd hb => ?_, fun hs hd hb => ?_, fun hs => ?_, fun hi hw => ?_⟩ <;>
    refine congrArg Host.Outcome.next ?_
  · have answered : onDer f s = enterAnswer f.src (deliverIfGood f s) :=
      (frameInState_idle hs).trans (if_pos (toMe_iff.mpr hd))
    rw [answered, enterAnswer_eq, deliverIfGood_ring, deliverIfGood_timing]
  · exact (frameInState_idle hs).trans ((if_neg (mt toMe_iff.mp hd)).trans (if_pos hb))
  · exact (frameInState_idle hs).trans ((if_neg (mt toMe_iff.mp hd)).trans (if_neg hb))
  · exact (frameInState_accepts hs (by decide)).trans (wfrAccept_eq f s)
  · exact frameInState_ignored hw (fun hs => absurd hs hi) (fun _ => rfl)

/-- Settles O46: in IDLE this station and broadcast are one case. -/
theorem dnerFrameMeaning : Obligations.DnerFrameMeaning := by
  intro f s
  simp only [← deliverIfGood_eq]
  have addressed : (toMe f s || decide (f.dest = broadcast)) = true ↔ f.dest = s.cfg.thisStation ∨ f.dest = 255 := by
    rw [Bool.or_eq_true, toMe_iff, decide_eq_true_iff]
  refine ⟨fun hs hd => ?_, fun hs hd hb => ?_, fun hs => ?_, fun hi hw => ?_⟩ <;>
    refine congrArg Host.Outcome.next ?_
  · exact (frameInState_idle hs).trans (if_pos (addressed.mpr hd))
  · exact (frameInState_idle hs).trans (if_neg (fun h => (addressed.mp h).elim hd hb))
  · exact (frameInState_accepts hs (by decide)).trans (wfrAccept_eq f s)
  · exact frameInState_ignored hw (fun hs => absurd hs hi) (fun _ => rfl)

end Sys2Proof.Machine
end

section
/-! PROOF. The host's events ENQUEUE, DEQUEUE, ANSWER and NO_ANSWER: each is a TICK but for its own action (O34, O36,
O37, O38). -/

namespace Sys2Proof.Machine

/-! ## The frame-abort check, written in the registers (R193) -/

/-- The check finds a frame whose octets stopped coming, not merely a lone sync octet. -/
def abortsFrame (s : State) : Bool :=
  abortSilence s && (decide (s.rx.state = .header) || decide (s.rx.state = .data))

/-- The check in one equation: its guards read neither queue and no counter, so it commutes with a write of those. -/
theorem abortCheck_eq (s : State) :
    abortCheck s = { s with
      rx := { s.rx with state := if abortSilence s = true then .hunt else s.rx.state }
      ring := { s.ring with
        state := if abortsFrame s = true ∧ s.ring.state = .waitForReply then .doneWithToken else s.ring.state }
      cnt := { s.cnt with
        frameAbort := if abortsFrame s = true then s.cnt.frameAbort + 1 else s.cnt.frameAbort } } := by
  unfold abortCheck abortsFrame
  cases hsil : abortSilence s with
  | false => simp
  | true =>
    cases hrx : s.rx.state with
    | hunt =>
      have kept : { s.rx with state := .hunt } = s.rx := by rw [← hrx]
      simp [kept]
    | preamble => simp [rxToHunt]
    | header => by_cases hw : s.ring.state = .waitForReply <;> simp [abortReply, rxToHunt, count, setRingState, hw]
    | data => by_cases hw : s.ring.state = .waitForReply <;> simp [abortReply, rxToHunt, count, setRingState, hw]

/-- An abort neither begins nor ends the wait for the host's reply: it leaves WAIT_FOR_REPLY only. -/
theorem answerExpected_abortCheck (s : State) : answerExpected (abortCheck s) = answerExpected s := by
  rcases abortCheck_ring s with hr | ⟨hw, hr⟩
  · simp [answerExpected, hr]
  · simp [answerExpected, hr, hw]

/-! ## An event that is a TICK but for its own action -/

/-- What a TICK at `t` makes of the registers: the frame-abort check, then the evaluation (R248). -/
def ticked (t : Time) (s : State) : State :=
  evaluateIfSame s.ring.state (abortCheck (setNow t s))

/-- R248. -/
theorem exec_tick_admitted {t : Time} {s : State} (hv : s.cfgValid = true) (ht : s.timing.now ≤ t) :
    exec (.tick t) s = .next (respond .clock .ok none (ticked t s)) := by
  rw [exec_event _ _ _ _ rfl, eventStep_admitted _ _ _ _ hv ht]
  rfl

theorem ticked_responses (t : Time) (s : State) : (ticked t s).responses = s.responses := by
  have hk := evaluateIfSame_keeps s.ring.state (abortCheck (setNow t s))
  exact hk.responses.trans (abortCheck_responses _)

/-- What a TICK makes of the registers, returned to a port. -/
theorem respond_ticked (port : Port) (r : Result) (e : Option InEntry) (t : Time) (s : State) :
    respond port r e (ticked t s) =
      { ticked t s with responses := s.responses ++ [{ port := port, result := r, entry := e }] } := by
  rw [respond, ticked_responses]

/-- An admitted event whose action leaves what the frame-abort check would leave of `u`, in the same ring state:
the evaluation after it is that of a TICK on `u` (R240, R245). -/
theorem exec_eq_ticked {i : Instr} {port : Port} {t : Time} {s : State} {r : Result} {e : Option InEntry} (u : State)
    (hi : admissible i = some (port, t)) (hv : s.cfgValid = true) (ht : s.timing.now ≤ t)
    (hact : actionOf i (abortCheck (setNow t s)) = { state := abortCheck (setNow t u), result := r, entry := e })
    (hst : u.ring.state = s.ring.state) : exec i s = .next (respond port r e (ticked t u)) := by
  rw [exec_event i port t s hi, eventStep_admitted _ _ _ _ hv ht, phases, hact, ticked, hst]
  rfl

/-- Such an event, when `u` differs from `s` in nothing that step admission or the answers read: but for its own
answer, its step is a TICK's on `u`. -/
theorem exec_as_tick_on {i : Instr} {port : Port} {t : Time} {s : State} {r : Result} {e : Option InEntry} (u : State)
    (hi : admissible i = some (port, t)) (hv : s.cfgValid = true) (ht : s.timing.now ≤ t)
    (hact : actionOf i (abortCheck (setNow t s)) = { state := abortCheck (setNow t u), result := r, entry := e })
    (hu : u.cfgValid = s.cfgValid ∧ u.timing = s.timing ∧ u.ring.state = s.ring.state ∧ u.responses = s.responses) :
    ∃ s', exec (.tick t) u = .next s' ∧
      exec i s = .next { s' with responses := s.responses ++ [{ port := port, result := r, entry := e }] } := by
  obtain ⟨hvalid, htiming, hst, hresp⟩ := hu
  refine ⟨_, exec_tick_admitted (hvalid.trans hv) (htiming ▸ ht), ?_⟩
  rw [exec_eq_ticked u hi hv ht hact hst, respond_ticked, hresp]
  rfl

/-- An admitted event whose action only answers: in all else its step is a TICK's. -/
theorem exec_as_tick {i : Instr} {port : Port} {t : Time} {s : State} {r : Result}
    (hi : admissible i = some (port, t)) (hv : s.cfgValid = true) (ht : s.timing.now ≤ t)
    (hact : actionOf i (abortCheck (setNow t s)) = .plain r (abortCheck (setNow t s))) :
    ∃ s', exec (.tick t) s = .next s' ∧
      exec i s = .next { s' with responses := s.responses ++ [{ port := port, entry := none, result := r }] } :=
  exec_as_tick_on s hi hv ht hact ⟨rfl, rfl, rfl, rfl⟩

/-! ## The evaluation does not read `INQ` -/

/-- `INQ` written whole. -/
def setInq (q : List InEntry) (s : State) : State := { s with inq := q }

theorem setInq_ring (q : List InEntry) (s : State) : (setInq q s).ring = s.ring := rfl
theorem setInq_cfg (q : List InEntry) (s : State) : (setInq q s).cfg = s.cfg := rfl
theorem setInq_outq (q : List InEntry) (s : State) : (setInq q s).outq = s.outq := rfl

/-- R260, i1. -/
theorem sendIdleResponse_setInq (q : List InEntry) (s : State) :
    sendIdleResponse (setInq q s) = setInq q (sendIdleResponse s) := by
  cases hk : s.ring.idleRespKind <;> simp only [sendIdleResponse, setInq_ring, hk] <;> rfl

/-- Each rule's guards and actions are the same whatever `INQ` holds, and none writes it (R246). -/
theorem evaluate_setInq (q : List InEntry) (s : State) : evaluate (setInq q s) = setInq q (evaluate s) := by
  cases hs : s.ring.state <;> simp only [evaluate, setInq_ring, hs]
  case init => simp only [evalInitialize, apply_ite (setInq q)]; rfl
  case idle => simp only [evalIdle, sendIdleResponse_setInq, apply_ite (setInq q)]; rfl
  case useToken =>
    simp only [evalUseToken, sendEntry, setInq_outq]
    cases s.outq <;> simp only [qPop, apply_ite (setInq q)] <;> rfl
  case waitForReply => simp only [evalWaitForReply, apply_ite (setInq q)]; rfl
  case doneWithToken => simp only [evalDoneWithToken, apply_ite (setInq q)]; rfl
  case passToken => simp only [evalPassToken, apply_ite (setInq q)]; rfl
  case noToken => simp only [evalNoToken, apply_ite (setInq q)]; rfl
  case pollForMaster => simp only [evalPollForMaster, nextProbe, apply_ite (setInq q)]; rfl
  case answerDataRequest =>
    simp only [evalAnswer, evalAnswerMaximum, evalAnswerMinimum, setInq_cfg]
    cases s.cfg.replyDelaySemantics <;> simp only [apply_ite (setInq q)] <;> rfl

theorem abortCheck_setNow_setInq (t : Time) (q : List InEntry) (s : State) :
    abortCheck (setNow t (setInq q s)) = setInq q (abortCheck (setNow t s)) := by
  rw [abortCheck_eq, abortCheck_eq]
  rfl

theorem ticked_setInq (t : Time) (q : List InEntry) (s : State) : ticked t (setInq q s) = setInq q (ticked t s) := by
  simp only [ticked, evaluateIfSame, abortCheck_setNow_setInq, evaluate_setInq, apply_ite (setInq q)]
  rfl

/-! ## The events' own actions in one equation each -/

/-- R370. -/
theorem enqueueAction_eq (p : Octets) (d : Addr) (er : Bool) (s : State) :
    enqueueAction p d er s =
      { state := { s with
          outq := if s.build.maxPayload < p.length ∨ s.build.outqCap ≤ s.outq.length then s.outq
            else s.outq ++ [{ payload := p, dest := d, expectsReply := er }]
          cnt := { s.cnt with
            outqReject := if ¬ s.build.maxPayload < p.length ∧ s.build.outqCap ≤ s.outq.length
              then s.cnt.outqReject + 1 else s.cnt.outqReject } }
        result := if s.build.maxPayload < p.length then .tooLong
          else if s.build.outqCap ≤ s.outq.length then .full else .ok
        entry := none } := by
  unfold enqueueAction
  by_cases hlong : s.build.maxPayload < p.length
  · simp [hlong, Acted.plain]
  · by_cases hfull : s.build.outqCap ≤ s.outq.length
    · simp [hlong, hfull, Acted.plain, count]
    · simp [hlong, hfull, Acted.plain, qPush]

/-- R380. -/
theorem dequeueAction_eq (s : State) :
    dequeueAction s =
      { state := setInq s.inq.tail s, result := if s.inq = [] then .empty else .ok, entry := s.inq.head? } := by
  unfold dequeueAction
  cases hq : s.inq with
  | nil =>
    have unchanged : setInq [] s = s := by rw [← hq]; rfl
    simp [qPop, Acted.plain, unchanged]
  | cons e rest => simp [qPop, setInq]

/-- R385: the reply is held. -/
theorem answerAction_holds {p : Octets} {s : State} (he : answerExpected s = true)
    (hp : p.length ≤ s.build.maxPayload) :
    answerAction p s = .plain .ok { s with ring := { s.ring with replyPayload := p, replyValid := true } } := by
  rw [answerAction, if_pos he, if_neg (Nat.not_lt.mpr hp)]

/-- R385: a reply that does not fit changes nothing. -/
theorem answerAction_tooLong {p : Octets} {s : State} (he : answerExpected s = true)
    (hp : ¬ p.length ≤ s.build.maxPayload) : answerAction p s = .plain .tooLong s := by
  rw [answerAction, if_pos he, if_pos (Nat.lt_of_not_le hp)]

/-- R385: with no reply expected nothing changes, whatever its length. -/
theorem answerAction_notExpected {p : Octets} {s : State} (he : ¬ answerExpected s = true) :
    answerAction p s = .plain .notExpected s := by
  rw [answerAction, if_neg he]

/-! ## The obligations -/

/-- Settles O34: the frame-abort check reads and writes neither `OUTQ` nor the count of rejects, so ENQUEUE's
writes may come before it. -/
theorem enqueueQueuesOrRefuses : Obligations.EnqueueQueuesOrRefuses := by
  intro s t p d er hv ht
  refine exec_as_tick_on _ rfl hv ht ?_ ⟨rfl, rfl, rfl, rfl⟩
  rw [actionOf, enqueueAction_eq, abortCheck_eq, abortCheck_eq]
  rfl

/-- Settles O36: neither the frame-abort check nor the evaluation reads or writes `INQ`, so the removal may come
after them. -/
theorem dequeueReturnsTheOldestEntry : Obligations.DequeueReturnsTheOldestEntry := by
  intro s t hv ht
  refine ⟨_, exec_tick_admitted hv ht, ?_⟩
  have hact : dequeueAction (abortCheck (setNow t s)) =
      { state := abortCheck (setNow t (setInq s.inq.tail s)), result := if s.inq = [] then .empty else .ok,
        entry := s.inq.head? } := by
    rw [dequeueAction_eq, abortCheck_setNow_setInq, abortCheck_inq]
    rfl
  rw [exec_eq_ticked (i := .dequeue t) _ rfl hv ht hact rfl, respond_ticked, ticked_setInq]
  rfl

/-- Settles O37: an abort does not change whether a reply is expected, and reads and writes no part of a held one. -/
theorem answerIsHeldOrRefused : Obligations.AnswerIsHeldOrRefused := by
  intro s t p hv ht
  have hexp : answerExpected (abortCheck (setNow t s)) = true ↔
      s.ring.state = .answerDataRequest ∧ s.ring.replyValid = false := by
    rw [answerExpected_abortCheck]
    exact answerExpected_iff (setNow t s)
  have hmax : (abortCheck (setNow t s)).build.maxPayload = s.build.maxPayload := by simp
  constructor
  · intro he hp
    refine exec_as_tick_on _ rfl hv ht ?_ ⟨rfl, rfl, rfl, rfl⟩
    rw [actionOf, answerAction_holds (hexp.mpr he) (hmax ▸ hp), abortCheck_eq, abortCheck_eq]
    rfl
  · intro hnot
    by_cases he : s.ring.state = .answerDataRequest ∧ s.ring.replyValid = false
    · have hlong : ¬ p.length ≤ s.build.maxPayload := fun hp => hnot ⟨he, hp⟩
      rw [if_pos he]
      exact exec_as_tick rfl hv ht (answerAction_tooLong (hexp.mpr he) (hmax ▸ hlong))
    · rw [if_neg he]
      exact exec_as_tick rfl hv ht (answerAction_notExpected (mt hexp.mp he))

/-- Settles O38: entering IDLE changes the state, so no evaluation follows it (R245); and a NO_ANSWER that is not
expected only answers. -/
theorem noAnswerReturnsToIdle : Obligations.NoAnswerReturnsToIdle := by
  constructor
  · intro s t hq hs hr
    have hact : noAnswerAction (setNow t s) = .plain .ok (enterIdle (setNow t s)) :=
      if_pos ((answerExpected_iff _).mpr ⟨hs, hr⟩)
    have hchanged : (enterIdle (setNow t s)).ring.state ≠ s.ring.state := by simp [hs]
    rw [exec_event _ _ _ _ rfl, eventStep_quiet _ _ _ _ hq, actionOf, hact]
    exact congrArg (fun x => Host.Outcome.next (respond .hostAnswer .ok none x)) (if_neg hchanged)
  · intro s t hv ht hnot
    refine exec_as_tick rfl hv ht (if_neg ?_)
    rw [answerExpected_abortCheck]
    exact fun he => hnot ((answerExpected_iff _).mp he)

end Sys2Proof.Machine
end

section
/-! PROOF. RESET (O15) and the configuration check (O16). -/

namespace Sys2Proof.Machine

/-! ## The RESET step (R450) -/

theorem exec_reset (t : Time) (cfg : Cfg) (s : State) : exec (.reset t cfg) s = .next (resetStep t cfg s) := rfl

theorem resetStep_valid {cfg : Cfg} (t : Time) (s : State) (h : validCfg cfg = true) :
    resetStep t cfg s = respond .control .ok none (enterInitialize (resetRegisters t cfg s)) := by
  rw [resetStep, if_pos h]

theorem resetStep_invalid {cfg : Cfg} (t : Time) (s : State) (h : validCfg cfg = false) :
    resetStep t cfg s = respond .control .configInvalid none { s with cfgValid := false } := by
  rw [resetStep, if_neg (Bool.eq_false_iff.mp h)]

/-- `enter_initialize` leaves the registers of a successful RESET as they are: they hold INITIALIZE already, and
the silence timer is armed at `t`. -/
theorem enterInitialize_resetRegisters (t : Time) (cfg : Cfg) (s : State) :
    enterInitialize (resetRegisters t cfg s) = resetRegisters t cfg s := rfl

/-! ## The configuration check (R451) -/

/-- The check on the operands' machine words, clause by clause. -/
theorem validCfg_iff (cfg : Cfg) : validCfg cfg = true ↔
    cfg.nmaxMaster ≤ 127 ∧ cfg.thisStation ≤ cfg.nmaxMaster ∧
    (1 ≤ cfg.nmaxInfoFrames ∧ cfg.nmaxInfoFrames ≤ 255) ∧ (1 ≤ cfg.npoll ∧ cfg.npoll ≤ 255) ∧
    1 ≤ cfg.bitRate ∧
    (1 ≤ cfg.tReplyTimeout ∧ 1 ≤ cfg.tReplyDelay ∧ 1 ≤ cfg.tUsageTimeout ∧ 1 ≤ cfg.tNoToken ∧
      1 ≤ cfg.tPollTimeout) ∧
    (1 ≤ cfg.nFrameAbortBits ∧ 1 ≤ cfg.nTurnaroundBits) ∧
    (cfg.replyDelaySemantics = .maximum ∨ cfg.replyDelaySemantics = .minimum) := by
  simp only [validCfg, Bool.and_eq_true, Bool.or_eq_true, decide_eq_true_iff, and_assoc]

/-! ## The obligations -/

/-- Settles O15: a valid configuration sets every register, an invalid one only `CFG_VALID`, and RESET answers on
CONTROL. -/
theorem resetSetsEveryRegister : Obligations.ResetSetsEveryRegister := by
  constructor
  · intro s t cfg hvalid
    rw [exec_reset, resetStep_valid t s hvalid, enterInitialize_resetRegisters]
    rfl
  · intro s t cfg hinvalid
    rw [exec_reset, resetStep_invalid t s hinvalid]
    rfl

/-- Settles O16: the order of the machine words is that of the numbers they hold, and every bound fits its word. -/
theorem validConfigurationConditions : Obligations.ValidConfigurationConditions := by
  intro cfg
  rw [validCfg_iff]
  simp only [BitVec.le_def]
  rfl

end Sys2Proof.Machine
end

section
/-! PROOF. The decoder: it undoes the encoder (O1), names the seven events and no other (O2), classifies every tag (O4),
reads the words written out (O10), and its answer is what the step runs (O11). -/

namespace Sys2Proof

/-! ## Wire images (R140, R142, R157) -/

/-- The decoder reads the fixed header's fields and goes on with what follows it. -/
theorem decode_fixedHeader_append (m : Nat) (ty dest src : Byte) (len : BitVec 16) (rest : Octets) :
    decode m (fixedHeader ty dest src len ++ rest) = decodeBody m ty dest src len rest := by
  simp [decode, decodeFrame, fixedHeader]

theorem decodeBody_empty (m : Nat) (ty dest src : Byte) :
    decodeBody m ty dest src 0 [] = .ok (Instr.ofFrame { tag := ty, body :=
      { dest := dest, src := src, len := 0, payload := [], payloadOk := true } }) := rfl

/-- A payload of the stated length and two more octets: whether the frame is intact is the length test and the
checksum (R157). -/
theorem decodeBody_payload (m : Nat) (ty dest src : Byte) {len : BitVec 16} {p : Octets} (crc : BitVec 16)
    (hlen : p.length = len.toNat) (hpos : len ≠ 0) :
    decodeBody m ty dest src len (p ++ [loByte crc, hiByte crc]) =
      .ok (Instr.ofFrame { tag := ty, body :=
        { dest := dest, src := src, len := len,
          payload := if len.toNat ≤ m ∧ crc = payloadCRC p then p else [],
          payloadOk := decide (len.toNat ≤ m ∧ crc = payloadCRC p) } }) := by
  have hdrop : (p ++ [loByte crc, hiByte crc]).drop len.toNat = [loByte crc, hiByte crc] := List.drop_left' hlen
  have htake : (p ++ [loByte crc, hiByte crc]).take len.toNat = p := List.take_left' hlen
  rw [decodeBody, if_neg hpos, hdrop, htake]
  simp

/-- A failed payload's image is the fixed header, the zero octets and a checksum that is not theirs. -/
theorem encodeFailed_eq_fixedHeader_append (ty dest src : Byte) (len : BitVec 16) :
    encodeFailed ty dest src len =
      fixedHeader ty dest src len ++ (List.replicate len.toNat 0 ++
        [loByte (~~~ (payloadCRC (List.replicate len.toNat 0))),
         hiByte (~~~ (payloadCRC (List.replicate len.toNat 0)))]) := by
  simp [encodeFailed, fixedHeader, headerOctets]

/-- The image of a received frame decodes to the instruction its tag names (R140 to R146, R157). -/
theorem decode_encodeReceived (m : Nat) (tag : Byte) (f : Received) (hf : f.wf m = true) :
    decode m (encodeReceived tag f) = .ok (Instr.ofFrame { tag := tag, body := f }) := by
  obtain ⟨dest, src, len, payload, ok⟩ := f
  cases ok with
  | true =>
    obtain ⟨hlen, hfits⟩ : payload.length = len.toNat ∧ len.toNat ≤ m := by simpa [Received.wf] using hf
    have stated : BitVec.ofNat 16 payload.length = len := by rw [hlen, BitVec.ofNat_toNat, BitVec.setWidth_eq]
    simp only [encodeReceived, if_true]
    rw [encodeFrame_eq_fixedHeader_append, decode_fixedHeader_append, stated, payloadPart]
    by_cases h0 : len = 0
    · subst h0
      obtain rfl : payload = [] := List.length_eq_zero_iff.mp hlen
      exact decodeBody_empty m tag dest src
    · have hpos : payload.length ≠ 0 := fun h => h0 (BitVec.eq_of_toNat_eq (hlen.symm.trans h))
      rw [if_neg hpos, decodeBody_payload m tag dest src _ hlen h0]
      simp [hfits]
  | false =>
    obtain ⟨rfl, h0⟩ : payload = [] ∧ len ≠ 0 := by simpa [Received.wf] using hf
    simp only [encodeReceived, Bool.false_eq_true, if_false]
    rw [encodeFailed_eq_fixedHeader_append, decode_fixedHeader_append,
      decodeBody_payload m tag dest src _ List.length_replicate h0]
    simp

/-! ## Event records (R172) -/

/-- A record with an event's code and a time stamp goes on with the operands. -/
theorem decode_record (m : Nat) {code : Byte} (hc : code ≤ codeNoAnswer) (t : Time) (operands : Octets) :
    decode m (code :: (putTime t ++ operands)) = decodeOperands code t operands := by
  have no_sync : code ≠ sync1 := by
    rintro rfl
    exact absurd hc (by decide)
  simp only [decode, if_neg no_sync, decodeEvent, if_pos hc, takeTime_putTime]

/-- A record that ends with its time stamp. -/
theorem decode_bare_record (m : Nat) {code : Byte} (hc : code ≤ codeNoAnswer) (t : Time) :
    decode m (code :: putTime t) = decodeOperands code t [] := by
  simpa using decode_record m hc t []

theorem ofOctet_octet (r : ReplyDelaySemantics) (h : r.wf = true) : ReplyDelaySemantics.ofOctet r.octet = r := by
  cases r with
  | maximum => rfl
  | minimum => rfl
  | invalid c =>
    have h2 : (2 : Byte) ≤ c := by simpa [ReplyDelaySemantics.wf] using h
    have h0 : c ≠ 0 := by rintro rfl; exact absurd h2 (by decide)
    have h1 : c ≠ 1 := by rintro rfl; exact absurd h2 (by decide)
    rw [ReplyDelaySemantics.octet, ReplyDelaySemantics.ofOctet, if_neg h0, if_neg h1]

/-- The configuration record is read back field by field, in the order of R10's table. -/
theorem takeCfg_putCfg (c : Cfg) (h : c.replyDelaySemantics.wf = true) : takeCfg (putCfg c) = some (c, []) := by
  simp [takeCfg, putCfg, ofOctet_octet _ h]

/-! ## The instructions -/

theorem ofFrame_unrecognized {tag : Byte} (h : unrecognizedTag tag = true) (f : Received) :
    Instr.ofFrame { tag := tag, body := f } = .unrecognized tag f := by
  simp only [Instr.ofFrame, (unrecognizedTag_iff_ofTag tag).mp h, Instr.ofFrameType]

theorem ofFrame_vendor {tag : Byte} (h : vendorTag tag = true) (f : Received) :
    Instr.ofFrame { tag := tag, body := f } = .vendor tag f := by
  simp only [Instr.ofFrame, (vendorTag_iff_ofTag tag).mp h, Instr.ofFrameType]

/-- Settles O1: a frame is read back from its wire image, an event from its record. -/
theorem decodeOfEncodeIsIdentity : Obligations.DecodeOfEncodeIsIdentity := by
  intro m i hwf
  cases i with
  | token f | pfm f | rpfm f | testRequest f | testResponse f | der f | dner f =>
    exact decode_encodeReceived m _ f hwf
  | unrecognized tag f =>
    obtain ⟨ht, hf⟩ := Bool.and_eq_true_iff.mp hwf
    exact (decode_encodeReceived m tag f hf).trans (congrArg Decoded.ok (ofFrame_unrecognized ht f))
  | vendor tag f =>
    obtain ⟨ht, hf⟩ := Bool.and_eq_true_iff.mp hwf
    exact (decode_encodeReceived m tag f hf).trans (congrArg Decoded.ok (ofFrame_vendor ht f))
  | reset t cfg =>
    rw [encode, decode_record m (by decide)]
    simp only [decodeOperands, if_true, decodeReset, takeCfg_putCfg cfg hwf, endOfRecord]
  | octet t b => exact decode_record m (by decide) t [b]
  | enqueue t p dest er =>
    rw [encode, List.append_assoc, decode_record m (by decide)]
    cases er <;> rfl
  | answer t p => exact decode_record m (by decide) t p
  | tick t | dequeue t | noAnswer t => exact decode_bare_record m (by decide) t

/-! ## What a record can name (R172) -/

theorem endOfRecord_ok {i j : Instr} {rest : Octets} (h : endOfRecord i rest = .ok j) : j = i := by
  cases rest with
  | nil => exact (Decoded.ok.inj h).symm
  | cons => cases h

theorem decodeReset_ok {t : Time} {rest : Octets} {i : Instr} (h : decodeReset t rest = .ok i) :
    ∃ cfg, i = .reset t cfg := by
  unfold decodeReset at h
  split at h
  · exact ⟨_, endOfRecord_ok h⟩
  · cases h

theorem decodeOctet_ok {t : Time} {rest : Octets} {i : Instr} (h : decodeOctet t rest = .ok i) :
    ∃ b, i = .octet t b := by
  unfold decodeOctet at h
  split at h
  · exact ⟨_, endOfRecord_ok h⟩
  · cases h

theorem decodeEnqueue_ok {t : Time} {rest : Octets} {i : Instr} (h : decodeEnqueue t rest = .ok i) :
    ∃ p d er, i = .enqueue t p d er := by
  unfold decodeEnqueue at h
  repeat' split at h
  all_goals cases h
  all_goals exact ⟨_, _, _, rfl⟩

/-- The code chooses the event, and no code above 6 chooses one. -/
theorem decodeOperands_ok {code : Byte} {t : Time} {rest : Octets} {i : Instr}
    (h : decodeOperands code t rest = .ok i) :
    (code = 0 ∧ ∃ cfg, i = .reset t cfg) ∨ (code = 1 ∧ i = .tick t) ∨ (code = 2 ∧ ∃ b, i = .octet t b) ∨
    (code = 3 ∧ ∃ p d er, i = .enqueue t p d er) ∨ (code = 4 ∧ i = .dequeue t) ∨
    (code = 5 ∧ ∃ p, i = .answer t p) ∨ (code = 6 ∧ i = .noAnswer t) := by
  unfold decodeOperands at h
  split at h
  case isTrue hc => exact .inl ⟨hc, decodeReset_ok h⟩
  split at h
  case isTrue hc => exact .inr (.inl ⟨hc, endOfRecord_ok h⟩)
  split at h
  case isTrue hc => exact .inr (.inr (.inl ⟨hc, decodeOctet_ok h⟩))
  split at h
  case isTrue hc => exact .inr (.inr (.inr (.inl ⟨hc, decodeEnqueue_ok h⟩)))
  split at h
  case isTrue hc => exact .inr (.inr (.inr (.inr (.inl ⟨hc, endOfRecord_ok h⟩))))
  split at h
  case isTrue hc => exact .inr (.inr (.inr (.inr (.inr (.inl ⟨hc, rest, (Decoded.ok.inj h).symm⟩)))))
  split at h
  case isTrue hc => exact .inr (.inr (.inr (.inr (.inr (.inr ⟨hc, endOfRecord_ok h⟩)))))
  cases h

/-- A record that decodes has a time stamp, and its code and operands name the event. -/
theorem decodeEvent_ok {code : Byte} {rest : Octets} {i : Instr} (h : decodeEvent (code :: rest) = .ok i) :
    ∃ t operands, decodeOperands code t operands = .ok i := by
  simp only [decodeEvent] at h
  split at h
  · split at h
    · exact ⟨_, _, h⟩
    · cases h
  · cases h

theorem decodeEvent_notAnEvent {code : Byte} (rest : Octets) (h : 6 < code) :
    decodeEvent (code :: rest) = .error (.notAnEvent code) := if_neg (BitVec.not_le.mpr h)

end Sys2Proof

namespace Sys2Proof.Machine

/-- Settles O2: the operands' decoder tests the seven codes one after another. -/
theorem onlyCodesZeroToSixAreEvents : Obligations.OnlyCodesZeroToSixAreEvents := by
  constructor
  · intro code rest i h
    obtain ⟨t, operands, hops⟩ := decodeEvent_ok h
    rcases decodeOperands_ok hops with ⟨hc, cfg, hi⟩ | ⟨hc, hi⟩ | ⟨hc, b, hi⟩ | ⟨hc, p, d, er, hi⟩ | ⟨hc, hi⟩ |
      ⟨hc, p, hi⟩ | ⟨hc, hi⟩
    · exact .inl ⟨hc, t, cfg, hi⟩
    · exact .inr (.inl ⟨hc, t, hi⟩)
    · exact .inr (.inr (.inl ⟨hc, t, b, hi⟩))
    · exact .inr (.inr (.inr (.inl ⟨hc, t, p, d, er, hi⟩)))
    · exact .inr (.inr (.inr (.inr (.inl ⟨hc, t, hi⟩))))
    · exact .inr (.inr (.inr (.inr (.inr (.inl ⟨hc, t, p, hi⟩)))))
    · exact .inr (.inr (.inr (.inr (.inr (.inr ⟨hc, t, hi⟩)))))
  · intro code rest inbox s h
    simp only [step, decodeEvent_notAnEvent rest h, refusalOf]

/-- Settles O4: the two ranges are those of the well-formed tags. -/
theorem everyTagIsClassifiedAndKept : Obligations.EveryTagIsClassifiedAndKept := by
  refine ⟨rfl, rfl, rfl, rfl, rfl, rfl, rfl, fun tag h7 h7F => ?unassigned, fun tag h80 => ?vendor,
    FrameType.ofTag_tag⟩
  case unassigned => exact (unrecognizedTag_iff_ofTag tag).mp ((unrecognizedTag_iff_range tag).mpr ⟨h7, h7F⟩)
  case vendor => exact (vendorTag_iff_ofTag tag).mp ((vendorTag_iff_range tag).mpr h80)

/-- A word that is an instruction's encoding decodes to it. -/
theorem decode_of_eq_encode {m : Nat} {word : Octets} (i : Instr) (hw : word = encode i) (hi : i.wf m = true) :
    decode m word = .ok i := by
  rw [hw, decodeOfEncodeIsIdentity m i hi]

/-- Settles O10: each word written out is the encoding of what it stands for. -/
theorem writtenOutWordsDecode : Obligations.WrittenOutWordsDecode :=
  ⟨decode_of_eq_encode _ (by decide +kernel) (by decide), decode_of_eq_encode _ (by decide +kernel) (by decide),
    decode_of_eq_encode _ (by decide +kernel) (by decide), decode_of_eq_encode _ rfl rfl⟩

/-- Settles O11: the decoder's answer and the empty inbox are the step's own cases. -/
theorem stepRunsTheDecodedEvent : Obligations.StepRunsTheDecodedEvent := by
  constructor
  · intro s record rest i hin hd
    simp only [step, hin, hd]
  · intro s hin
    simp only [step, hin]

end Sys2Proof.Machine
end

section
/-! PROOF. The two checksums: their closed forms (O5, O6), their residues (O7, O8), and single-bit errors (O9). Each
octet's step is a linear and injective function of the register and the octet; everything here follows from that. -/

namespace Sys2Proof

/-! ## Linear functions of bit vectors -/

/-- `f` respects exclusive or. -/
def XorLinear {w v : Nat} (f : BitVec w → BitVec v) : Prop := ∀ x y, f (x ^^^ y) = f x ^^^ f y

section Linear

variable {w v : Nat} {f g : BitVec w → BitVec v}

theorem XorLinear.map_zero (hf : XorLinear f) : f 0 = 0 := by
  have h := hf 0 0
  rwa [BitVec.xor_self, BitVec.xor_self] at h

/-- A mask distributes over a sum. -/
theorem xor_and_distrib (x y mask : BitVec w) : (x ^^^ y) &&& mask = (x &&& mask) ^^^ (y &&& mask) := by
  refine BitVec.eq_of_getLsbD_eq fun i _ => ?_
  simp only [BitVec.getLsbD_and, BitVec.getLsbD_xor, Bool.and_xor_distrib_right]

theorem XorLinear.iterate {f : BitVec w → BitVec w} (hf : XorLinear f) (n : Nat) : XorLinear f^[n] := by
  induction n with
  | zero => exact fun _ _ => rfl
  | succ n ih =>
    intro x y
    simp only [Function.iterate_succ_apply]
    rw [hf, ih]

/-- A linear function that takes only 0 to 0 is injective. -/
theorem XorLinear.injective (hf : XorLinear f) (h0 : ∀ x, f x = 0 → x = 0) : Function.Injective f := by
  intro x y hxy
  have hsum : x ^^^ y = 0 := h0 _ (by rw [hf, hxy, BitVec.xor_self]; rfl)
  exact BitVec.xor_eq_zero_iff.mp hsum

/-- Clearing the highest bit that may be set leaves only lower ones. -/
theorem clear_bit {x : BitVec w} {k : Nat} (hx : ∀ i, k + 1 ≤ i → x.getLsbD i = false)
    (hk : x.getLsbD k = true) : ∀ i, k ≤ i → (x ^^^ BitVec.twoPow w k).getLsbD i = false := by
  intro i hi
  rw [BitVec.getLsbD_xor, BitVec.getLsbD_twoPow]
  rcases Nat.eq_or_lt_of_le hi with rfl | hlt
  · have hw : k < w := BitVec.lt_of_getLsbD hk
    simp [hk, hw]
  · simp [hx i hlt, Nat.ne_of_lt hlt]

/-- Linear functions that agree on the single bits agree, by induction on the highest bit set. -/
theorem XorLinear.eq_of_basis (hf : XorLinear f) (hg : XorLinear g)
    (hb : ∀ k < w, f (BitVec.twoPow w k) = g (BitVec.twoPow w k)) (x : BitVec w) : f x = g x := by
  have below : ∀ k x, (∀ i, k ≤ i → x.getLsbD i = false) → f x = g x := by
    intro k
    induction k with
    | zero =>
      intro x hx
      obtain rfl : x = 0 := BitVec.eq_of_getLsbD_eq fun i _ => by simpa using hx i (Nat.zero_le i)
      rw [hf.map_zero, hg.map_zero]
    | succ k ih =>
      intro x hx
      cases hk : x.getLsbD k with
      | false =>
        refine ih x fun i hi => ?_
        rcases Nat.eq_or_lt_of_le hi with rfl | hlt
        · exact hk
        · exact hx i hlt
      | true =>
        have split_bit : x = x ^^^ BitVec.twoPow w k ^^^ BitVec.twoPow w k := by
          rw [BitVec.xor_assoc, BitVec.xor_self, BitVec.xor_zero]
        rw [split_bit, hf, hg, ih _ (clear_bit hx hk), hb k (BitVec.lt_of_getLsbD hk)]
  exact below w x fun i hi => BitVec.getLsbD_of_ge x i hi

end Linear

/-! ## The bit-serial register (R150, R155) -/

/-- One turn of the repeat loops of R150 and R155, for any reflected generator. -/
def crcBit {w : Nat} (poly c : BitVec w) : BitVec w :=
  if c.getLsbD 0 then (c >>> 1) ^^^ poly else c >>> 1

/-- The eight turns an octet takes, once it is added into the register. -/
def crcOctet {w : Nat} (poly c : BitVec w) : BitVec w := (crcBit poly)^[8] c

theorem crc8Step_eq (d c : Byte) : crc8Step d c = crcOctet crc8Poly (c ^^^ d) := rfl

theorem crc16Step_eq (d : Byte) (c : BitVec 16) : crc16Step d c = crcOctet crc16Poly (c ^^^ d.setWidth 16) := rfl

section Register

variable {w : Nat} (poly : BitVec w)

theorem crcBit_linear : XorLinear (crcBit poly) := by
  intro x y
  unfold crcBit
  rw [BitVec.getLsbD_xor, BitVec.ushiftRight_xor_distrib]
  cases x.getLsbD 0 <;> cases y.getLsbD 0
  · rfl
  · exact BitVec.xor_assoc _ _ _
  · simp only [Bool.xor_false, if_true, Bool.false_eq_true, if_false]
    ac_rfl
  · have cancel : poly ^^^ poly = 0#w := BitVec.xor_self
    simp only [Bool.xor_self, if_true, Bool.false_eq_true, if_false]
    calc x >>> 1 ^^^ y >>> 1 = x >>> 1 ^^^ y >>> 1 ^^^ (poly ^^^ poly) := by rw [cancel, BitVec.xor_zero]
      _ = x >>> 1 ^^^ poly ^^^ (y >>> 1 ^^^ poly) := by ac_rfl

theorem crcOctet_linear : XorLinear (crcOctet poly) := (crcBit_linear poly).iterate 8

variable {poly} (hp : poly.msb = true)
include hp

/-- The top bit of the generator shows that a 1 was shifted out, so no turn loses a bit. -/
theorem crcBit_injective : Function.Injective (crcBit poly) := by
  refine (crcBit_linear poly).injective fun c hc => ?_
  unfold crcBit at hc
  cases hlow : c.getLsbD 0 with
  | true =>
    rw [hlow, if_pos rfl] at hc
    have top := congrArg BitVec.msb hc
    simp [BitVec.msb_xor, hp, BitVec.msb_ushiftRight] at top
  | false =>
    rw [hlow, if_neg Bool.false_ne_true] at hc
    refine BitVec.eq_of_getLsbD_eq fun i _ => ?_
    cases i with
    | zero => simpa using hlow
    | succ i => simpa [Nat.add_comm] using congrArg (fun x : BitVec w => x.getLsbD i) hc

theorem crcOctet_injective : Function.Injective (crcOctet poly) := (crcBit_injective hp).iterate 8

end Register

theorem crc8_injective : Function.Injective (crcOctet crc8Poly) := crcOctet_injective (by decide)
theorem crc16_injective : Function.Injective (crcOctet crc16Poly) := crcOctet_injective (by decide)

/-! ## The closed forms (R151, R156) -/

/-- The closed form of R151 depends on the sum of the octet and the register. -/
theorem crc8Closed_eq (d c : Byte) : crc8Closed d c = crc8Closed (c ^^^ d) 0#8 := by
  simp [crc8Closed]

theorem crc8Closed_linear : XorLinear fun x => crc8Closed x 0#8 := by
  intro x y
  simp only [crc8Closed, BitVec.setWidth_xor, BitVec.shiftLeft_xor_distrib, BitVec.ushiftRight_xor_distrib,
    xor_and_distrib, BitVec.zero_xor]
  ac_rfl

/-- Settles O5: the step and the closed form are linear and agree on the eight single bits. -/
theorem headerCrcClosedForm : Obligations.HeaderCrcClosedForm := by
  intro d c
  constructor
  · rw [crc8Step_eq, crc8Closed_eq]
    exact (crcOctet_linear crc8Poly).eq_of_basis crc8Closed_linear (by decide) (c ^^^ d)
  · simp only [crc8Step_eq, BitVec.ofNat_eq_ofNat, BitVec.zero_xor]

/-- The closed form of R156 depends on the sum of the octet and the register. -/
theorem crc16Closed_eq (d : Byte) (c : BitVec 16) : crc16Closed d c = crc16Closed 0#8 (c ^^^ d.setWidth 16) := by
  have high : d.setWidth 16 >>> 8 = 0#16 := by
    refine BitVec.eq_of_getLsbD_eq fun i _ => ?_
    simp
  have low : d.setWidth 16 &&& 0xFF = d.setWidth 16 := by
    refine BitVec.eq_of_toNat_eq ?_
    have fits : (d.setWidth 16).toNat < 2 ^ 8 := by
      rw [BitVec.toNat_setWidth_of_le (by decide)]
      exact d.isLt
    exact Nat.and_two_pow_sub_one_of_lt_two_pow fits
  simp only [crc16Closed, BitVec.ushiftRight_xor_distrib, xor_and_distrib, high, low, BitVec.setWidth_zero,
    BitVec.xor_zero]

theorem crc16Closed_linear : XorLinear (crc16Closed 0#8) := by
  intro x y
  simp only [crc16Closed, BitVec.shiftLeft_xor_distrib, BitVec.ushiftRight_xor_distrib,
    xor_and_distrib, BitVec.setWidth_zero, BitVec.xor_zero]
  ac_rfl

/-- The eight turns of the payload checksum's register. -/
theorem crcOctet16_eq_closed (x : BitVec 16) : crcOctet crc16Poly x = crc16Closed 0#8 x :=
  (crcOctet_linear crc16Poly).eq_of_basis crc16Closed_linear (by decide) x

/-- Settles O6: the step and the closed form are linear and agree on the sixteen single bits. -/
theorem payloadCrcClosedForm : Obligations.PayloadCrcClosedForm := by
  intro d c
  rw [crc16Step_eq, crc16Closed_eq, crcOctet16_eq_closed]

/-! ## The residues (R152, R157) -/

theorem crc8Run_append (c : Byte) (a b : Octets) : crc8Run c (a ++ b) = crc8Run (crc8Run c a) b :=
  List.foldl_append

theorem crc16Run_append (c : BitVec 16) (a b : Octets) : crc16Run c (a ++ b) = crc16Run (crc16Run c a) b :=
  List.foldl_append

/-- A word is the complement of another exactly when their sum is all ones. -/
theorem eq_not_iff_xor {w : Nat} (x r : BitVec w) : x = ~~~ r ↔ r ^^^ x = BitVec.allOnes w := by
  constructor
  · rintro rfl
    refine BitVec.eq_of_getLsbD_eq fun i hi => ?_
    simp [hi]
  · intro h
    have cancel : x = r ^^^ (r ^^^ x) := by rw [← BitVec.xor_assoc, BitVec.xor_self, BitVec.zero_xor]
    rw [cancel, h, BitVec.xor_allOnes]

/-- Settles O7: the checksum octet sums with the register to all ones exactly when it is the complement, and the step
takes all ones, and nothing else, to 0x55. -/
theorem headerCheckIsResidue : Obligations.HeaderCheckIsResidue := by
  intro ty dest src len c
  have residue : (0x55 : Byte) = crcOctet crc8Poly (BitVec.allOnes 8) := by decide
  rw [headerCRC, eq_not_iff_xor, crc8Run_append, residue]
  exact crc8_injective.eq_iff.symm

/-- The high octet of a register that holds nothing else comes down in eight turns. -/
theorem crcOctet16_high (b : Byte) : crcOctet crc16Poly (b.setWidth 16 <<< 8) = b.setWidth 16 := by
  have hf : XorLinear fun b : Byte => crcOctet crc16Poly (b.setWidth 16 <<< 8) := by
    intro x y
    simp only [BitVec.setWidth_xor, BitVec.shiftLeft_xor_distrib]
    exact crcOctet_linear crc16Poly _ _
  have hg : XorLinear fun b : Byte => b.setWidth 16 := fun _ _ => BitVec.setWidth_xor
  exact hf.eq_of_basis hg (by decide) b

/-- The two octets of the checksum do not overlap. -/
theorem joinLE16_eq_xor (lo hi : Byte) : joinLE16 lo hi = lo.setWidth 16 ^^^ (hi.setWidth 16 <<< 8) := by
  refine BitVec.eq_of_getLsbD_eq fun i _ => ?_
  simp only [joinLE16, BitVec.getLsbD_or, BitVec.getLsbD_xor]
  by_cases h : i < 8
  · simp [h]
  · simp [BitVec.getLsbD_of_ge lo i (by omega)]

/-- Two octets, one after the other, are summed as one word, low octet first. -/
theorem crc16Run_pair (r : BitVec 16) (lo hi : Byte) :
    crc16Run r [lo, hi] = crcOctet crc16Poly (crcOctet crc16Poly (r ^^^ joinLE16 lo hi)) := by
  calc crc16Run r [lo, hi]
      = crcOctet crc16Poly (crcOctet crc16Poly (r ^^^ lo.setWidth 16) ^^^ hi.setWidth 16) := rfl
    _ = crcOctet crc16Poly (crcOctet crc16Poly (r ^^^ lo.setWidth 16 ^^^ hi.setWidth 16 <<< 8)) := by
        rw [crcOctet_linear crc16Poly (r ^^^ lo.setWidth 16), crcOctet16_high]
    _ = crcOctet crc16Poly (crcOctet crc16Poly (r ^^^ joinLE16 lo hi)) := by
        rw [joinLE16_eq_xor, BitVec.xor_assoc]

/-- Settles O8: as for the header, with the two octets as one word. -/
theorem payloadCheckIsResidue : Obligations.PayloadCheckIsResidue := by
  intro p lo hi
  have residue : (0xF0B8 : BitVec 16) = crcOctet crc16Poly (crcOctet crc16Poly (BitVec.allOnes 16)) := by
    rw [crcOctet16_eq_closed, crcOctet16_eq_closed]
    decide
  rw [payloadCRC, eq_not_iff_xor, crc16Run_append, crc16Run_pair, residue, crc16_injective.eq_iff,
    crc16_injective.eq_iff]

/-! ## Single-bit errors (R163) -/

theorem crc8Step_register_injective (d : Byte) : Function.Injective (crc8Step d) := fun _ _ h =>
  (BitVec.xor_left_inj _).mp (crc8_injective h)

theorem crc8Step_octet_injective (c : Byte) : Function.Injective fun d => crc8Step d c := fun _ _ h =>
  (BitVec.xor_right_inj _).mp (crc8_injective h)

theorem crc16Step_register_injective (d : Byte) : Function.Injective (crc16Step d) := fun _ _ h =>
  (BitVec.xor_left_inj _).mp (crc16_injective h)

theorem crc16Step_octet_injective (c : BitVec 16) : Function.Injective fun d => crc16Step d c := fun _ _ h => by
  have hwide := (BitVec.xor_right_inj _).mp (crc16_injective h)
  simpa using congrArg (BitVec.setWidth 8) hwide

section Runs

variable {w : Nat} {step : Byte → BitVec w → BitVec w}

/-- Registers that differ stay different over any octets. -/
theorem foldl_register_injective (hreg : ∀ d, Function.Injective (step d)) (p : Octets) :
    Function.Injective fun c => p.foldl (fun r d => step d r) c := by
  induction p with
  | nil => exact Function.injective_id
  | cons d p ih => exact ih.comp (hreg d)

/-- A change of one octet changes the register it leaves, and so the last one. -/
theorem foldl_modify_ne (hreg : ∀ d, Function.Injective (step d)) (hoct : ∀ c, Function.Injective fun d => step d c)
    {flip : Byte → Byte} (hflip : ∀ b, flip b ≠ b) {p : Octets} {i : Nat} (hi : i < p.length) (c : BitVec w) :
    (p.modify i flip).foldl (fun r d => step d r) c ≠ p.foldl (fun r d => step d r) c := by
  induction p generalizing i c with
  | nil => exact absurd hi (Nat.not_lt_zero i)
  | cons d p ih =>
    cases i with
    | zero => exact fun h => hflip d (hoct c (foldl_register_injective hreg p h))
    | succ i => exact ih (Nat.lt_of_succ_lt_succ hi) (step d c)

end Runs

theorem crc8Run_modify_ne {flip : Byte → Byte} (hflip : ∀ b, flip b ≠ b) {p : Octets} {i : Nat} (hi : i < p.length)
    (c : Byte) : crc8Run c (p.modify i flip) ≠ crc8Run c p :=
  foldl_modify_ne crc8Step_register_injective crc8Step_octet_injective hflip hi c

theorem payloadCRC_modify_ne {flip : Byte → Byte} (hflip : ∀ b, flip b ≠ b) {p : Octets} {i : Nat}
    (hi : i < p.length) : payloadCRC (p.modify i flip) ≠ payloadCRC p := fun h =>
  foldl_modify_ne crc16Step_register_injective crc16Step_octet_injective hflip hi crc16Init
    (BitVec.not_inj.mp h)

/-- Flipping one of the eight bits changes an octet. -/
theorem flipBit_ne {k : Nat} (hk : k < 8) (b : Byte) : b ^^^ (1#8 <<< k) ≠ b := by
  intro h
  have hbit := congrArg (fun x : Byte => x.getLsbD k) h
  simp [hk] at hbit

theorem loByte_joinLE16 (lo hi : Byte) : loByte (joinLE16 lo hi) = lo := by
  refine BitVec.eq_of_getLsbD_eq fun i hlt => ?_
  have below : i < 16 := by omega
  simp [loByte, joinLE16, hlt, below]

theorem hiByte_joinLE16 (lo hi : Byte) : hiByte (joinLE16 lo hi) = hi := by
  refine BitVec.eq_of_getLsbD_eq fun i hlt => ?_
  have below : 8 + i < 16 := by omega
  simp [hiByte, joinLE16, hlt, below]

/-- The checksum octets are the only ones that join to a word. -/
theorem joinLE16_eq_iff (lo hi : Byte) (x : BitVec 16) : joinLE16 lo hi = x ↔ lo = loByte x ∧ hi = hiByte x := by
  constructor
  · rintro rfl
    exact ⟨(loByte_joinLE16 lo hi).symm, (hiByte_joinLE16 lo hi).symm⟩
  · rintro ⟨rfl, rfl⟩
    exact joinLE16_split x

/-- A change of one octet before the end of the first part leaves the second part alone. -/
theorem modify_append_left {α : Type} (f : α → α) (a b : List α) {i : Nat} (hi : i < a.length) :
    (a ++ b).modify i f = a.modify i f ++ b := by
  induction a generalizing i with
  | nil => exact absurd hi (Nat.not_lt_zero i)
  | cons x a ih =>
    cases i with
    | zero => rfl
    | succ i => exact congrArg (x :: ·) (ih (Nat.lt_of_succ_lt_succ hi))

theorem modify_append_right {α : Type} (f : α → α) (a b : List α) (i : Nat) :
    (a ++ b).modify (a.length + i) f = a ++ b.modify i f :=
  List.modifyTailIdx_add _ i a b

/-- What the payload check reads of a payload and its two checksum octets. -/
theorem payload_check_reads (p : Octets) (lo hi : Byte) {n : Nat} (hn : n = p.length) :
    (p ++ [lo, hi]).getD n 0 = lo ∧ (p ++ [lo, hi]).getD (n + 1) 0 = hi ∧ (p ++ [lo, hi]).take n = p := by
  subst hn
  simp

/-- A payload whose one octet is changed fails its check, and so does one whose checksum octet is. -/
theorem payload_check_finds {flip : Byte → Byte} (hflip : ∀ b, flip b ≠ b) (p : Octets) {i : Nat}
    (hi : i < p.length + 2) :
    let got := (p ++ [loByte (payloadCRC p), hiByte (payloadCRC p)]).modify i flip
    joinLE16 (got.getD p.length 0) (got.getD (p.length + 1) 0) ≠ payloadCRC (got.take p.length) := by
  intro got
  rcases Nat.lt_or_ge i p.length with hlt | hge
  · have hgot : got = p.modify i flip ++ [loByte (payloadCRC p), hiByte (payloadCRC p)] :=
      modify_append_left flip p _ hlt
    obtain ⟨hlo, hhi, htake⟩ := payload_check_reads (p.modify i flip) (loByte (payloadCRC p))
      (hiByte (payloadCRC p)) (List.length_modify flip p i).symm
    rw [hgot, hlo, hhi, htake, joinLE16_split]
    exact (payloadCRC_modify_ne hflip hlt).symm
  · obtain ⟨j, rfl⟩ := Nat.exists_eq_add_of_le hge
    have hgot : got = p ++ [loByte (payloadCRC p), hiByte (payloadCRC p)].modify j flip :=
      modify_append_right flip p _ j
    obtain rfl | rfl : j = 0 ∨ j = 1 := by omega
    · obtain ⟨hlo, hhi, htake⟩ := payload_check_reads p (flip (loByte (payloadCRC p))) (hiByte (payloadCRC p)) rfl
      rw [hgot]
      simp only [List.modify_zero_cons]
      rw [hlo, hhi, htake, ne_eq, joinLE16_eq_iff]
      exact fun h => hflip _ h.1
    · obtain ⟨hlo, hhi, htake⟩ := payload_check_reads p (loByte (payloadCRC p)) (flip (hiByte (payloadCRC p))) rfl
      rw [hgot]
      simp only [List.modify_succ_cons, List.modify_zero_cons]
      rw [hlo, hhi, htake, ne_eq, joinLE16_eq_iff]
      exact fun h => hflip _ h.2

/-- A header whose one covered octet is changed fails its check, and so does one whose checksum is. -/
theorem header_check_finds {flip : Byte → Byte} (hflip : ∀ b, flip b ≠ b) (ty dest src : Byte) (len : BitVec 16)
    {i : Nat} (hi : i < 6) :
    let got := (headerOctets ty dest src len ++ [headerCRC ty dest src len]).modify i flip
    got.getD 5 0 ≠ ~~~ (crc8Run 0xFF (got.take 5)) := by
  intro got
  rcases Nat.lt_or_ge i 5 with hlt | hge
  · have hgot : got = (headerOctets ty dest src len).modify i flip ++ [headerCRC ty dest src len] :=
      modify_append_left flip _ _ hlt
    have hlen : ((headerOctets ty dest src len).modify i flip).length = 5 := List.length_modify flip _ i
    have hread : got.getD 5 0 = headerCRC ty dest src len := by simp [hgot, hlen]
    have htake : got.take 5 = (headerOctets ty dest src len).modify i flip := by rw [hgot]; exact List.take_left' hlen
    rw [hread, htake]
    exact fun h => crc8Run_modify_ne hflip hlt _ (BitVec.not_inj.mp h).symm
  · obtain rfl : i = 5 := by omega
    exact hflip _

/-- Settles O9: a flipped bit is a changed octet. -/
theorem checksFindSingleBitErrors : Obligations.ChecksFindSingleBitErrors :=
  ⟨fun p _ _ hi hk => payload_check_finds (flipBit_ne hk) p hi,
    fun ty dest src len _ _ hi hk => header_check_finds (flipBit_ne hk) ty dest src len hi⟩

end Sys2Proof
end

section
/-! PROOF. The step procedure: admission (O13, O14), a completed frame and none (O12, O28), the frame-abort check (O27),
transmission in the same step (O35, O49), and what no step does (O51, O52). -/

namespace Sys2Proof.Machine

/-! ## Every instruction has one next state (R400) -/

/-- The next state of an instruction. -/
def effect : Instr → State → State
  | .token f => onToken f
  | .pfm f => onPfm f
  | .rpfm f => onRpfm f
  | .testRequest f => onTestRequest f
  | .testResponse f => onTestResponse f
  | .der f => onDer f
  | .dner f => onDner f
  | .unrecognized tag f => onUnrecognized tag f
  | .vendor tag f => onVendor tag f
  | .reset t cfg => resetStep t cfg
  | .tick t => eventStep .clock t tickAction
  | .octet t b => eventStep .lineRx t (octetAction b)
  | .enqueue t p d er => eventStep .hostOut t (enqueueAction p d er)
  | .dequeue t => eventStep .hostIn t dequeueAction
  | .answer t p => eventStep .hostAnswer t (answerAction p)
  | .noAnswer t => eventStep .hostAnswer t noAnswerAction

theorem exec_eq_effect (i : Instr) (s : State) : exec i s = .next (effect i s) := by
  cases i <;> rfl

/-- The meaning of a frame that has no rules of its own: the reject-list rule of WAIT_FOR_REPLY, and nothing elsewhere
(R290, R294). -/
theorem frameInState_ignore_cases (tag : Byte) (f : Received) (s : State) :
    frameInState tag f ignore ignore s = s ∨
    (s.ring.state = .waitForReply ∧ tag ∈ rejectSet ∧ frameInState tag f ignore ignore s = wfrReject s) ∨
    (s.ring.state = .waitForReply ∧ tag ∉ rejectSet ∧ frameInState tag f ignore ignore s = wfrAccept f s) := by
  by_cases hs : s.ring.state = .waitForReply
  · by_cases ht : tag ∈ rejectSet
    · exact .inr (.inl ⟨hs, ht, frameInState_rejects hs ht⟩)
    · exact .inr (.inr ⟨hs, ht, frameInState_accepts hs ht⟩)
  · exact .inl (frameInState_ignored hs (fun _ => rfl) (fun _ => rfl))

theorem wfrReject_keeps (s : State) : HandlerKeeps s (wfrReject s) := by
  constructor <;> simp

theorem wfrAccept_keeps (f : Received) (s : State) : HandlerKeeps s (wfrAccept f s) := by
  rw [wfrAccept_eq]
  exact { deliverIfGood_keeps f s with }

theorem frameInState_ignore_keeps (tag : Byte) (f : Received) (s : State) :
    HandlerKeeps s (frameInState tag f ignore ignore s) := by
  rcases frameInState_ignore_cases tag f s with h | ⟨-, -, h⟩ | ⟨-, -, h⟩ <;> rw [h]
  · exact .refl s
  · exact wfrReject_keeps s
  · exact wfrAccept_keeps f s

/-- An instruction is RESET, an event that step admission checks, or a received frame, which keeps what every frame
handler keeps (R80, R290). -/
theorem effect_cases (i : Instr) (s : State) :
    (∃ t cfg, i = .reset t cfg) ∨
    (∃ port t, admissible i = some (port, t) ∧ effect i s = eventStep port t (actionOf i) s) ∨
    HandlerKeeps s (effect i s) := by
  cases i with
  | token f => exact .inr (.inr (frameHandler_keeps { tag := tagToken, body := f } s))
  | pfm f => exact .inr (.inr (frameHandler_keeps { tag := tagPfm, body := f } s))
  | rpfm f => exact .inr (.inr (frameHandler_keeps { tag := tagRpfm, body := f } s))
  | testRequest f => exact .inr (.inr (frameHandler_keeps { tag := tagTestRequest, body := f } s))
  | der f => exact .inr (.inr (frameHandler_keeps { tag := tagDer, body := f } s))
  | dner f => exact .inr (.inr (frameHandler_keeps { tag := tagDner, body := f } s))
  | testResponse f => exact .inr (.inr (frameInState_ignore_keeps tagTestResponse f s))
  | unrecognized tag f | vendor tag f => exact .inr (.inr (frameInState_ignore_keeps tag f s))
  | reset t cfg => exact .inl ⟨t, cfg, rfl⟩
  | tick | octet | enqueue | dequeue | answer | noAnswer => exact .inr (.inl ⟨_, _, rfl, rfl⟩)

/-! ## What an event other than RESET leaves alone (R42) -/

/-- What `s'` keeps of `s` when it is what an event other than RESET made of it. -/
structure EventKeeps (s s' : State) : Prop where
  build : s'.build = s.build
  cfg : s'.cfg = s.cfg
  cfgValid : s'.cfgValid = s.cfgValid
  tFrameAbort : s'.tFrameAbort = s.tFrameAbort
  tTurnaround : s'.tTurnaround = s.tTurnaround
  inbox : s'.inbox = s.inbox

theorem EvalKeeps.event {s s' : State} (h : EvalKeeps s s') : EventKeeps s s' := { h with }
theorem HandlerKeeps.event {s s' : State} (h : HandlerKeeps s s') : EventKeeps s s' := { h with }
theorem ActionKeeps.event {s : State} {a : Acted} (h : ActionKeeps s a) : EventKeeps s a.state := { h with }

theorem abortCheck_event (s : State) : EventKeeps s (abortCheck s) := by
  constructor <;> simp

theorem EventKeeps.trans {s1 s2 s3 : State} (h : EventKeeps s1 s2) (h' : EventKeeps s2 s3) : EventKeeps s1 s3 where
  build := h'.build.trans h.build
  cfg := h'.cfg.trans h.cfg
  cfgValid := h'.cfgValid.trans h.cfgValid
  tFrameAbort := h'.tFrameAbort.trans h.tFrameAbort
  tTurnaround := h'.tTurnaround.trans h.tTurnaround
  inbox := h'.inbox.trans h.inbox

theorem acted_event (i : Instr) (s : State) : EventKeeps s (acted i s) :=
  (abortCheck_event s).trans (actionOf_keeps i _).event

theorem phases_event (port : Port) (i : Instr) (s : State) : EventKeeps s (phases port (actionOf i) s) := by
  rw [phases_eq]
  exact { (acted_event i s).trans (evaluateIfSame_keeps s.ring.state (acted i s)).event with }

theorem eventStep_event (port : Port) (t : Time) (i : Instr) (s : State) :
    EventKeeps s (eventStep port t (actionOf i) s) := by
  rcases eventStep_cases port t (actionOf i) s with ⟨r, h⟩ | ⟨-, -, h⟩ <;> rw [h]
  · constructor <;> rfl
  · exact { phases_event port i (setNow t s) with }

theorem resetStep_build (t : Time) (cfg : Cfg) (s : State) : (resetStep t cfg s).build = s.build := by
  unfold resetStep
  split <;> rfl

/-- Settles O51: neither the frame handlers nor the phases of an event write the configuration. -/
theorem onlyResetWritesTheConfiguration : Obligations.OnlyResetWritesTheConfiguration := by
  intro i s s' h
  obtain rfl := Host.Outcome.next.inj ((exec_eq_effect i s).symm.trans h)
  have written {s' : State} (hk : EventKeeps s s') : s'.build = s.build ∧ ((∀ t cfg, i ≠ .reset t cfg) →
      s'.cfg = s.cfg ∧ s'.cfgValid = s.cfgValid ∧ s'.tFrameAbort = s.tFrameAbort ∧
        s'.tTurnaround = s.tTurnaround) :=
    ⟨hk.build, fun _ => ⟨hk.cfg, hk.cfgValid, hk.tFrameAbort, hk.tTurnaround⟩⟩
  rcases effect_cases i s with ⟨t, cfg, rfl⟩ | ⟨port, t, -, he⟩ | hk
  · exact ⟨resetStep_build t cfg s, fun hne => absurd rfl (hne t cfg)⟩
  · rw [he]
    exact written (eventStep_event port t i s)
  · exact written hk.event

/-! ## Admission (R241, R242, R403) -/

/-- An event or an invalid RESET, in an unconfigured block, is answered and changes nothing (R241, R450). -/
theorem exec_unconfigured {i : Instr} {s : State} (hv : s.cfgValid = false)
    (hi : (admissible i).isSome = true ∨ ∃ t cfg, i = .reset t cfg ∧ validCfg cfg = false) :
    ∃ response, exec i s = .next { s with responses := s.responses ++ [response] } := by
  rcases hi with ha | ⟨t, cfg, rfl, hc⟩
  · obtain ⟨⟨port, t⟩, ha⟩ := Option.isSome_iff_exists.mp ha
    refine ⟨{ port := port, result := .notConfigured, entry := none }, ?_⟩
    rw [exec_event i port t s ha, eventStep_notConfigured port t _ s hv]
    rfl
  · refine ⟨{ port := .control, result := .configInvalid, entry := none }, ?_⟩
    rw [exec_reset, resetStep_invalid t s hc, ← hv]
    rfl

/-- A run of such instructions answers each of them and changes nothing else. -/
theorem execAll_unconfigured {events : List Instr} {s : State} (hv : s.cfgValid = false)
    (hi : ∀ i ∈ events, (admissible i).isSome = true ∨ ∃ t cfg, i = .reset t cfg ∧ validCfg cfg = false) :
    ∃ answers : List Response, execAll events s = .next { s with responses := s.responses ++ answers } ∧
      answers.length = events.length := by
  induction events generalizing s with
  | nil => exact ⟨[], by rw [List.append_nil]; rfl, rfl⟩
  | cons i events ih =>
    obtain ⟨response, hexec⟩ := exec_unconfigured hv (hi i List.mem_cons_self)
    obtain ⟨answers, hrest, hlen⟩ := ih (s := { s with responses := s.responses ++ [response] }) hv
      fun j hj => hi j (List.mem_cons_of_mem i hj)
    refine ⟨response :: answers, ?_, congrArg (· + 1) hlen⟩
    simp only [execAll, hexec]
    rw [hrest, List.append_assoc]
    rfl

/-- Settles O13: by step admission, and by induction on the run. -/
theorem refusedEventsChangeNothing : Obligations.RefusedEventsChangeNothing := by
  refine ⟨fun i port t s ha => ⟨fun hv => ?_, fun hv ht => ?_⟩, fun events s hs hi => ?_⟩
  · rw [exec_event i port t s ha, eventStep_notConfigured port t _ s hv]
    rfl
  · rw [exec_event i port t s ha, eventStep_timeRegression port t _ s hv ht]
    rfl
  · obtain ⟨hv, -, hnone⟩ := hs
    obtain ⟨answers, hrun, hlen⟩ := execAll_unconfigured hv hi
    refine ⟨_, hrun, rfl, ?_⟩
    rw [hnone, List.nil_append, hlen]

theorem acted_now (i : Instr) (s : State) : (acted i s).timing.now = s.timing.now :=
  (actionOf_keeps i _).now.trans (congrArg Timing.now (abortCheck_timing s))

theorem acted_responses (i : Instr) (s : State) : (acted i s).responses = s.responses :=
  (actionOf_keeps i _).responses.trans (abortCheck_responses s)

/-- Settles O14: the phases keep `NOW` and the pending records, and only the last of them answers. -/
theorem admittedEventsSetNowAndAnswerOnce : Obligations.AdmittedEventsSetNowAndAnswerOnce := by
  intro i port t s ha hv ht
  have hkeep := evaluateIfSame_keeps s.ring.state (acted i (setNow t s))
  obtain ⟨hconf, hregr, hinv⟩ := (actionOf_keeps i (abortCheck (setNow t s))).admitted
  refine ⟨phases port (actionOf i) (setNow t s), (actionOf i (abortCheck (setNow t s))).result,
    (actionOf i (abortCheck (setNow t s))).entry, ?_, ?_, ?_, hconf, hregr, hinv, ?_⟩
  · rw [exec_event i port t s ha, eventStep_admitted port t _ s hv ht]
  · exact hkeep.now.trans (acted_now i _)
  · exact congrArg (· ++ _) (hkeep.responses.trans (acted_responses i _))
  · exact (phases_event port i (setNow t s)).inbox

/-! ## An OCTET with a completed frame, and with none (R194, R195) -/

theorem countScan_eq (c : Option Counter) (s : State) : countScan c s = { s with cnt := s.cnt.scanned c } := by
  cases c <;> rfl

/-- Settles O12: the handler of the completed frame is the frame's instruction. -/
theorem completedFrameRunsItsInstruction : Obligations.CompletedFrameRunsItsInstruction := by
  intro s t b f hq hf
  refine ⟨_, exec_ofFrame f _, ?_⟩
  rw [exec_event _ _ _ _ rfl, eventStep_quiet _ _ _ _ hq, actionOf, octetAction_some b (setNow t s) f hf, countScan_eq]
  rfl

/-- OCTET's action when the scan is quiet. -/
theorem octetAction_quiet {b : Byte} {s : State} {rx : Rx} (h : scan s.build.maxPayload s.rx b = .quiet rx) :
    octetAction b s = .plain .ok { s with
      rx := rx
      timing := { s.timing with
        rxLast := s.timing.now
        tsNoToken := if listening s.ring.state then s.timing.now else s.timing.tsNoToken } } := by
  rw [octetAction_none b s (congrArg ScanResult.frame h), h]
  rfl

theorem listening_iff (st : RingState) : listening st = true ↔ st = .init ∨ st = .idle ∨ st = .noToken := by
  cases st <;> simp [listening]

/-- An evaluation answers nothing, so its answer may be written over. -/
theorem respond_evaluate (port : Port) (r : Result) (s : State) :
    respond port r none (evaluate s) =
      { evaluate s with responses := s.responses ++ [{ port := port, result := r, entry := none }] } := by
  rw [respond, (evaluate_keeps s).responses]

/-- Settles O28: with no frame the ring state is as it was, so the evaluation follows, as it does in a TICK. -/
theorem octetWithoutAFrameIsATick : Obligations.OctetWithoutAFrameIsATick := by
  intro s t b hq habort hf
  have just_now : ¬ s.tFrameAbort ≤ t - t := by bv_omega
  simp only [← listening_iff]
  refine ⟨_, tick_quiet t _ ⟨hq.1, hq.2.1, .inr just_now⟩, ?_⟩
  rw [exec_event _ _ _ _ rfl, eventStep_quiet _ _ _ _ hq, actionOf, octetAction_none b (setNow t s) hf, countScan_eq]
  refine congrArg Host.Outcome.next ((congrArg (respond .lineRx .ok none) (if_pos rfl)).trans ?_)
  rw [respond_evaluate]
  rfl

/-! ## The frame-abort check (R193) -/

/-- Two states that the check makes one, in the same ring state, have the same step. -/
theorem exec_congr {i : Instr} {port : Port} {t : Time} {s u : State} (hi : admissible i = some (port, t))
    (hs : s.cfgValid = true ∧ s.timing.now ≤ t) (hu : u.cfgValid = true ∧ u.timing.now ≤ t)
    (hcheck : abortCheck (setNow t s) = abortCheck (setNow t u)) (hst : s.ring.state = u.ring.state) :
    exec i s = exec i u := by
  rw [exec_event i port t s hi, exec_event i port t u hi, eventStep_admitted _ _ _ _ hs.1 hs.2,
    eventStep_admitted _ _ _ _ hu.1 hu.2, phases, phases, hcheck, setNow_ring, setNow_ring, hst]

section Silence

variable {s : State} (hsilent : s.tFrameAbort ≤ s.timing.now - s.timing.rxLast)
include hsilent

theorem abortCheck_preamble (hrx : s.rx.state = .preamble) : abortCheck s = rxToHunt s := by
  simp [abortCheck, abortSilence, hsilent, hrx]

theorem abortCheck_partial (hrx : s.rx.state = .header ∨ s.rx.state = .data) (hw : s.ring.state ≠ .waitForReply) :
    abortCheck s = count .frameAbort (rxToHunt s) := by
  rcases hrx with hrx | hrx <;> simp [abortCheck, abortSilence, abortReply, hsilent, hrx, hw]

theorem abortCheck_partial_reply (hrx : s.rx.state = .header ∨ s.rx.state = .data)
    (hw : s.ring.state = .waitForReply) :
    abortCheck s = setRingState .doneWithToken (count .frameAbort (rxToHunt s)) := by
  rcases hrx with hrx | hrx <;> simp [abortCheck, abortSilence, abortReply, hsilent, hrx, hw]

end Silence

/-- Settles O27: the check discards a partial frame as if it had been discarded before; where it ends the wait for a
reply, the changed state is not evaluated, and an octet then scanned completes nothing. -/
theorem silenceAbortsAPartialFrame : Obligations.SilenceAbortsAPartialFrame := by
  refine ⟨fun i port t s ha hv ht hsilent => ⟨fun hrx => ?preamble, fun hrx hw => ?partialFrame⟩,
    fun s t hv ht hsilent hrx hw => ?tick, fun s t b hv ht hsilent hrx hw => ?octet⟩
  case preamble =>
    refine exec_congr ha ⟨hv, ht⟩ ⟨hv, ht⟩ ?_ rfl
    rw [abortCheck_preamble (s := setNow t s) hsilent hrx, abortCheck_quiet _ (.inl rfl)]
    rfl
  case partialFrame =>
    refine exec_congr ha ⟨hv, ht⟩ ⟨hv, ht⟩ ?_ rfl
    rw [abortCheck_partial (s := setNow t s) hsilent hrx hw, abortCheck_quiet _ (.inl rfl)]
    rfl
  case tick =>
    have ended : RingState.doneWithToken ≠ s.ring.state := by simp [hw]
    rw [exec_tick_admitted hv ht, ticked, abortCheck_partial_reply (s := setNow t s) hsilent hrx hw]
    exact congrArg (fun x => Host.Outcome.next (respond .clock .ok none x)) (if_neg ended)
  case octet =>
    have ended : RingState.doneWithToken ≠ s.ring.state := by simp [hw]
    have hscan : ∀ m, scan m { s.rx with state := .hunt } b =
        .quiet { s.rx with state := if b = 0x55 then .preamble else .hunt } := by
      intro m
      rw [scan_hunt rfl]
      by_cases hb : b = 0x55
      · simp only [sync1, if_pos hb]
      · simp only [sync1, if_neg hb]
    rw [exec_event _ _ _ _ rfl, eventStep_admitted _ _ _ _ hv ht, phases,
      abortCheck_partial_reply (s := setNow t s) hsilent hrx hw, actionOf, octetAction_quiet (hscan _)]
    exact congrArg (fun x => Host.Outcome.next (respond .lineRx .ok none x)) (if_neg ended)

/-! ## Transmission in the step of a host's event (O35) and at most once in any (O49) -/

/-- An event with nothing to abort whose action leaves the ring state: what it leaves is evaluated (R245). -/
theorem event_evaluates {i : Instr} {port : Port} {t : Time} {r : Result} {s s1 s2 : State}
    (hi : admissible i = some (port, t)) (hq : Quiet t s) (hact : actionOf i (setNow t s) = .plain r s1)
    (hst : s1.ring.state = s.ring.state) (he : evaluate s1 = s2) :
    exec i s = .next { s2 with
      responses := s2.responses ++ [{ port := port, result := r, entry := none }] } := by
  rw [exec_event i port t s hi, eventStep_quiet port t _ s hq, hact, evaluateIfSame, Acted.plain, if_pos hst, he]
  rfl

/-- Under MAXIMUM a held reply waits for the turnaround only (R286). -/
theorem evaluate_answer_sends {s : State} (hs : s.ring.state = .answerDataRequest)
    (hmax : s.cfg.replyDelaySemantics = .maximum) (hv : s.ring.replyValid = true)
    (ht : s.tTurnaround ≤ s.timing.now - s.timing.rxLast) : evaluate s = sendReply s := by
  rw [evaluate_answer hs (.inl hmax), if_pos hv, if_pos ⟨ht, .inl hmax⟩]

/-- Settles O35: the entry queued, or the reply held, is what the evaluation of the same step sends. -/
theorem hostPayloadsAreSentInTheSameStep : Obligations.HostPayloadsAreSentInTheSameStep := by
  constructor
  · intro s t p d hq hs hempty hfits hcap he hl ht
    have hroom : ¬ s.build.outqCap ≤ s.outq.length := by rw [hempty]; exact Nat.not_le.mpr hcap
    have queued : enqueueAction p d false (setNow t s) = .plain .ok { setNow t s with
        outq := s.outq ++ [{ payload := p, dest := d, expectsReply := false }] } :=
      (if_neg (Nat.not_lt.mpr hfits)).trans (if_neg hroom)
    rw [hempty] at queued
    have sent := evaluate_useToken_sends
      (s := { setNow t s with outq := [{ payload := p, dest := d, expectsReply := false }] }) hs he (Nat.not_le.mpr hl) rfl ht
    rw [event_evaluates (i := .enqueue t p d false) rfl hq queued rfl sent, sendEntry_data (by simp)]
    simp only [tx_eq, bumpFrameCount, tagDner, setNow, ← hempty]
  · intro s t p hq hs hfree hfits hmax ht
    have held := answerAction_holds (p := p) (s := setNow t s) ((answerExpected_iff _).mpr ⟨hs, hfree⟩) hfits
    have sent := evaluate_answer_sends
      (s := { setNow t s with ring := { s.ring with replyPayload := p, replyValid := true } }) hs hmax rfl ht
    rw [event_evaluates (i := .answer t p) rfl hq held rfl sent, sendReply_eq]
    simp only [setNow]

/-- The evaluation's transmission is stamped and guarded by registers that nothing after it writes (R221, R222). -/
theorem phases_emission (port : Port) (i : Instr) (s : State) :
    (phases port (actionOf i) s).lineTx = s.lineTx ∨
    ∃ x, (phases port (actionOf i) s).lineTx = s.lineTx ++ [x] ∧
      x.time = (phases port (actionOf i) s).timing.now ∧
      (phases port (actionOf i) s).tTurnaround ≤
        (phases port (actionOf i) s).timing.now - (phases port (actionOf i) s).timing.rxLast := by
  rcases phases_lineTx port i s with h | ⟨ty, dest, p, hem, -, hline⟩
  · exact .inl h
  · have hk := evaluateIfSame_keeps s.ring.state (acted i s)
    have hguard := (turnaroundOk_iff _).mp hem.guarded
    refine .inr ⟨_, hline.trans (hem.lineTx.trans (congrArg (· ++ _) (acted_keeps i s).1)), ?_, ?_⟩
    · exact hk.now.symm
    · rw [phases_eq, respond_tTurnaround, respond_timing, hk.tTurnaround, hk.now, hk.rxLast]
      exact hguard

/-- Settles O49: RESET and a refused event transmit nothing, and the phases of an admitted one at most once. -/
theorem atMostOneGuardedTransmissionPerStep : Obligations.AtMostOneGuardedTransmissionPerStep := by
  intro s s' hstep
  rcases step_cases hstep with ⟨-, rfl⟩ | ⟨record, rest, i, -, hd, hexec⟩
  · exact .inl rfl
  rcases decodeEvent_event hd with ⟨t, cfg, rfl⟩ | ⟨port, t, ha⟩
  · obtain rfl : resetStep t cfg { s with inbox := rest } = s' := Host.Outcome.next.inj hexec
    exact .inl (resetStep_lineTx t cfg _)
  · rw [exec_event i port t _ ha] at hexec
    obtain rfl := Host.Outcome.next.inj hexec
    rcases eventStep_cases port t (actionOf i) { s with inbox := rest } with ⟨r, he⟩ | ⟨-, -, he⟩ <;> rw [he]
    · exact .inl rfl
    · exact phases_emission port i (setNow t { s with inbox := rest })

/-! ## The ring states a step can lead to (O52) -/

/-- The states that the evaluation rules of a state lead to (R258 to R287). -/
def evaluationTargets : RingState → List RingState
  | .init => [.idle]
  | .idle => [.pollForMaster]
  | .useToken => [.doneWithToken, .waitForReply]
  | .waitForReply => [.doneWithToken]
  | .doneWithToken => [.pollForMaster, .passToken]
  | .passToken => [.useToken, .idle]
  | .noToken => [.pollForMaster]
  | .pollForMaster => [.idle, .useToken]
  | .answerDataRequest => [.idle]

@[simp] theorem sendIdleResponse_ring (s : State) : (sendIdleResponse s).ring = s.ring := by
  unfold sendIdleResponse
  split <;> rfl

/-- An evaluation stays in the state or takes one of the state's transitions. -/
theorem evaluate_moves (s : State) :
    (evaluate s).ring.state = s.ring.state ∨ (evaluate s).ring.state ∈ evaluationTargets s.ring.state := by
  cases hs : s.ring.state <;> simp only [evaluate, hs]
  case init => simp only [evalInitialize]; split <;> simp [hs, evaluationTargets]
  case idle =>
    simp only [evalIdle]
    repeat' split
    all_goals simp [hs, evaluationTargets]
  case useToken =>
    simp only [evalUseToken, sendEntry]
    repeat' split
    all_goals simp [hs, evaluationTargets]
  case waitForReply => simp only [evalWaitForReply]; split <;> simp [hs, evaluationTargets]
  case doneWithToken => simp only [evalDoneWithToken]; split <;> simp [evaluationTargets]
  case passToken =>
    simp only [evalPassToken]
    repeat' split
    all_goals simp [hs, evaluationTargets]
  case noToken => simp only [evalNoToken]; split <;> simp [hs, evaluationTargets]
  case pollForMaster =>
    simp only [evalPollForMaster, nextProbe]
    repeat' split
    all_goals simp [hs, evaluationTargets]
  case answerDataRequest =>
    simp only [evalAnswer, evalAnswerMaximum, evalAnswerMinimum]
    repeat' split
    all_goals simp [hs, evaluationTargets]

theorem evaluateIfSame_noToken {s0 : RingState} {s : State}
    (h : (evaluateIfSame s0 s).ring.state = .noToken) : s.ring.state = .noToken := by
  rcases evaluateIfSame_cases s0 s with ⟨-, he⟩ | ⟨-, he⟩ <;> rw [he] at h
  · rcases evaluate_moves s with hm | hm
    · exact hm.symm.trans h
    · rw [h] at hm
      cases hs : s.ring.state <;> simp [hs, evaluationTargets] at hm
  · exact h

theorem frameHandler_noToken {f : RxFrame} {s : State} (h : (frameHandler f s).ring.state = .noToken) :
    s.ring.state = .noToken := by
  rcases frameHandler_cases f s with he | ⟨-, -, he⟩ | ⟨-, -, he⟩ | ⟨-, -, -, he⟩ | ⟨-, -, -, he⟩ | ⟨-, -, -, he⟩ |
    ⟨-, -, -, he⟩ | ⟨-, -, -, he⟩ | ⟨-, -, -, he⟩ <;> simp [he, wfrAccept] at h <;> exact h

theorem answerAction_ring_state (p : Octets) (s : State) :
    (answerAction p s).state.ring.state = s.ring.state := by
  unfold answerAction
  repeat' split
  all_goals rfl

/-- No event's own action enters NO_TOKEN. -/
theorem actionOf_noToken {i : Instr} {s : State} (h : (actionOf i s).state.ring.state = .noToken) :
    s.ring.state = .noToken := by
  cases i <;> simp only [actionOf] at h
  case octet t b =>
    cases hf : (scan s.build.maxPayload s.rx b).frame with
    | none => rw [octetAction_none b s hf] at h; exact h
    | some f => rw [octetAction_some b s f hf] at h; exact (frameHandler_noToken h :)
  case enqueue => rw [enqueueAction_eq] at h; exact h
  case dequeue => rw [dequeueAction_eq] at h; exact h
  case answer => rwa [answerAction_ring_state] at h
  case noAnswer =>
    unfold noAnswerAction at h
    split at h
    · simp [Acted.plain] at h
    · exact h
  all_goals exact h

theorem abortCheck_noToken {s : State} (h : (abortCheck s).ring.state = .noToken) : s.ring.state = .noToken := by
  rcases abortCheck_ring s with he | ⟨-, he⟩
  · rwa [he] at h
  · simp [he] at h

/-- Settles O52: no phase of an event leads there, and RESET leads to INITIALIZE. -/
theorem noStepEntersNoToken : Obligations.NoStepEntersNoToken := by
  intro s s' hstep h
  rcases step_cases hstep with ⟨-, rfl⟩ | ⟨record, rest, i, -, hd, hexec⟩
  · exact h
  rcases decodeEvent_event hd with ⟨t, cfg, rfl⟩ | ⟨port, t, ha⟩
  · obtain rfl : resetStep t cfg { s with inbox := rest } = s' := Host.Outcome.next.inj hexec
    unfold resetStep at h
    split at h
    · simp at h
    · exact h
  · rw [exec_event i port t _ ha] at hexec
    obtain rfl := Host.Outcome.next.inj hexec
    rcases eventStep_cases port t (actionOf i) { s with inbox := rest } with ⟨r, he⟩ | ⟨-, -, he⟩ <;> rw [he] at h
    · exact h
    · rw [phases_eq] at h
      exact (abortCheck_noToken (actionOf_noToken (evaluateIfSame_noToken h)) :)

end Sys2Proof.Machine
end

section
/-! PROOF. How IDLE is left (O53), and how the two queues change (O54, O55). -/

namespace Sys2Proof.Machine

/-! ## An OCTET that completes a frame, seen from before the frame-abort check -/

/-- A receiver that has just been sent back to HUNT completes no frame, so with a frame there was nothing to abort. -/
theorem abortCheck_of_frame {s : State} {m : Nat} {b : Byte} {f : RxFrame}
    (h : (scan m (abortCheck s).rx b).frame = some f) : abortCheck s = s := by
  rcases abortCheck_rx s with he | hhunt
  · exact he
  · rw [scan_hunt hhunt] at h
    cases h

/-- The state in which a completed frame is handled (R194, R195). -/
def received (b : Byte) (s : State) : State :=
  { s with
    rx := (scan s.build.maxPayload s.rx b).rx
    cnt := (s.cnt.scanned (scan s.build.maxPayload s.rx b).counted).bump .framesRx
    timing := { s.timing with
      rxLast := s.timing.now
      tsNoToken := if listening s.ring.state then s.timing.now else s.timing.tsNoToken } }

/-- Everything an OCTET does before the evaluation, as far as the ring registers and the queues go: nothing after an
abort or without a frame, or the handler of the frame the scan of the receiver completes. -/
theorem acted_octet_cases (t : Time) (b : Byte) (s : State) :
    ((acted (.octet t b) s).ring = (abortCheck s).ring ∧ (acted (.octet t b) s).inq = s.inq ∧
      (acted (.octet t b) s).outq = s.outq) ∨
    ∃ f, (scan s.build.maxPayload s.rx b).frame = some f ∧ abortCheck s = s ∧
      acted (.octet t b) s = frameHandler f (received b s) := by
  have hact : acted (.octet t b) s = (octetAction b (abortCheck s)).state := rfl
  cases hf : (scan (abortCheck s).build.maxPayload (abortCheck s).rx b).frame with
  | none =>
    rw [hact, octetAction_none b _ hf]
    exact .inl ⟨rfl, abortCheck_inq s, abortCheck_outq s⟩
  | some f =>
    have quiet := abortCheck_of_frame hf
    rw [quiet] at hf
    refine .inr ⟨f, hf, quiet, ?_⟩
    rw [hact, quiet, octetAction_some b s f hf]
    rfl

/-! ## IDLE (R260, R304) -/

/-- i2 is the only evaluation rule that leaves IDLE. -/
theorem evaluate_idle_cases {s : State} (hs : s.ring.state = .idle) :
    (evaluate s).ring.state = .idle ∨
    ((evaluate s).ring.state = .pollForMaster ∧ s.ring.idleRespKind = .none ∧
      (evaluate s).timing.tsNoToken = s.timing.now) := by
  by_cases ho : s.ring.idleRespKind = .none
  · by_cases he : s.cfg.tNoToken.setWidth 64 ≤ s.timing.now - s.timing.tsNoToken
    · rw [evaluate_idle_expired hs ho he]
      exact .inr ⟨rfl, ho, rfl⟩
    · rw [evaluate_idle_holds hs ho he]
      exact .inl hs
  · left
    simp only [evaluate, hs, evalIdle, ne_eq, ho, not_false_eq_true, if_true]
    split
    · simp [hs]
    · exact hs

/-- A frame handled in IDLE leaves it for USE_TOKEN or ANSWER_DATA_REQUEST, or stays, and an owed response stays owed
(R309 to R317). -/
theorem frameHandler_idle_cases {f : RxFrame} {s : State} (hs : s.ring.state = .idle) :
    ((frameHandler f s).ring.state = .idle ∧
      ((frameHandler f s).ring.idleRespKind = .none → s.ring.idleRespKind = .none)) ∨
    (f.body.dest = s.cfg.thisStation ∧
      (f.tag = 0 ∧ (frameHandler f s).ring.state = .useToken ∨
       f.tag = 5 ∧ (frameHandler f s).ring.state = .answerDataRequest)) := by
  rcases frameHandler_cases f s with h | ⟨hw, -, -⟩ | ⟨hw, -, -⟩ | ⟨-, hd, ht, h⟩ | ⟨-, -, -, h⟩ | ⟨-, -, -, h⟩ |
    ⟨-, hd, ht, h⟩ | ⟨-, -, -, h⟩ | ⟨hp, -, -, -⟩
  · rw [h]; exact .inl ⟨hs, id⟩
  · simp [hs] at hw
  · simp [hs] at hw
  · rw [h]; exact .inr ⟨hd, .inl ⟨ht, rfl⟩⟩
  · rw [h]; exact .inl ⟨hs, fun hk => by cases hk⟩
  · rw [h]; exact .inl ⟨hs, fun hk => by cases hk⟩
  · rw [h]; exact .inr ⟨hd, .inr ⟨ht, rfl⟩⟩
  · rw [h, deliverIfGood_ring]; exact .inl ⟨hs, id⟩
  · simp [hs] at hp

/-- The check leaves the ring registers alone outside WAIT_FOR_REPLY. -/
theorem abortCheck_ring_eq {s : State} (hs : s.ring.state ≠ .waitForReply) : (abortCheck s).ring = s.ring := by
  rcases abortCheck_ring s with h | ⟨hw, -⟩
  · exact h
  · exact absurd hw hs

/-- The host's events and TICK leave the ring registers alone while no reply is expected. -/
theorem actionOf_ring_eq {i : Instr} {s : State} (hi : ∀ t b, i ≠ .octet t b)
    (hs : s.ring.state ≠ .answerDataRequest) : (actionOf i s).state.ring = s.ring := by
  have unexpected : ¬ answerExpected s = true := fun h => hs ((answerExpected_iff s).mp h).1
  cases i with
  | octet t b => exact absurd rfl (hi t b)
  | enqueue t p d er => rw [actionOf, enqueueAction_eq]
  | dequeue t => rw [actionOf, dequeueAction_eq]; rfl
  | answer t p => rw [actionOf, answerAction_notExpected unexpected]; rfl
  | noAnswer t => rw [actionOf, noAnswerAction, if_neg unexpected]; rfl
  | _ => rfl

theorem acted_ring_eq {i : Instr} {s : State} (hi : ∀ t b, i ≠ .octet t b) (hw : s.ring.state ≠ .waitForReply)
    (ha : s.ring.state ≠ .answerDataRequest) : (acted i s).ring = s.ring := by
  have hring := abortCheck_ring_eq hw
  exact (actionOf_ring_eq hi (by rwa [hring])).trans hring

/-- Everything an event can do in IDLE before the evaluation. -/
theorem acted_idle_cases (i : Instr) {s : State} (hs : s.ring.state = .idle) :
    ((acted i s).ring.state = .idle ∧ ((acted i s).ring.idleRespKind = .none → s.ring.idleRespKind = .none)) ∨
    ∃ t b f, i = .octet t b ∧ (scan s.build.maxPayload s.rx b).frame = some f ∧ f.body.dest = s.cfg.thisStation ∧
      (f.tag = 0 ∧ (acted i s).ring.state = .useToken ∨ f.tag = 5 ∧ (acted i s).ring.state = .answerDataRequest) := by
  have hw : s.ring.state ≠ .waitForReply := by simp [hs]
  by_cases hi : ∃ t b, i = .octet t b
  · obtain ⟨t, b, rfl⟩ := hi
    rcases acted_octet_cases t b s with ⟨hring, -, -⟩ | ⟨f, hf, -, hact⟩
    · rw [hring, abortCheck_ring_eq hw]
      exact .inl ⟨hs, id⟩
    · rw [hact]
      rcases frameHandler_idle_cases (f := f) (s := received b s) hs with hstay | ⟨hd, hleave⟩
      · exact .inl hstay
      · exact .inr ⟨t, b, f, rfl, hf, hd, hleave⟩
  · rw [acted_ring_eq (fun t b h => hi ⟨t, b, h⟩) hw (by simp [hs])]
    exact .inl ⟨hs, id⟩

/-- Settles O53: the action of an event leaves IDLE only for the two frames, and else the evaluation's rule i2 does. -/
theorem idleTakesTheTokenOnlyFromATokenFrame : Obligations.IdleTakesTheTokenOnlyFromATokenFrame := by
  intro i port t s s' ha hs hexec hleft
  rw [exec_event i port t s ha] at hexec
  obtain rfl := Host.Outcome.next.inj hexec
  rcases eventStep_cases port t (actionOf i) s with ⟨r, he⟩ | ⟨-, -, he⟩ <;> rw [he] at hleft ⊢
  · exact absurd hs hleft
  rw [phases_eq, respond_ring] at hleft ⊢
  rw [respond_timing]
  rcases evaluateIfSame_cases (setNow t s).ring.state (acted i (setNow t s)) with ⟨hsame, hev⟩ | ⟨hchanged, hev⟩ <;>
    rw [hev] at hleft ⊢
  · have hidle : (acted i (setNow t s)).ring.state = .idle := hsame.trans hs
    rcases evaluate_idle_cases hidle with hstay | ⟨hpoll, hnone, hts⟩
    · exact absurd hstay hleft
    · rcases acted_idle_cases i (s := setNow t s) hs with ⟨-, howed⟩ | ⟨_, _, _, -, -, -, ⟨-, h⟩ | ⟨-, h⟩⟩
      · exact .inr ⟨hpoll, howed hnone, hts.trans (acted_now i _)⟩
      · simp [hidle] at h
      · simp [hidle] at h
  · rcases acted_idle_cases i (s := setNow t s) hs with ⟨hstay, -⟩ | ⟨t', b, f, rfl, hf, hd, hcase⟩
    · exact absurd hstay hleft
    · obtain ⟨-, rfl⟩ := Prod.mk.inj (Option.some.inj ha)
      exact .inl ⟨b, f, rfl, hf, hd, hcase⟩

/-! ## INQ (R376) -/

theorem deliverIfGood_inq (f : Received) (s : State) :
    (deliverIfGood f s).inq = s.inq ∨
    (f.len ≠ 0 ∧ f.payloadOk = true ∧ (deliverIfGood f s).inq = s.inq ++ [{ payload := f.payload, src := f.src }]) := by
  rcases deliverIfGood_cases f s with ⟨-, h⟩ | ⟨-, -, -, h⟩ | ⟨hl, hok, -, h⟩ <;> rw [h]
  · exact .inl rfl
  · exact .inl rfl
  · exact .inr ⟨hl, hok, rfl⟩

theorem answerAction_queues (p : Octets) (s : State) :
    (answerAction p s).state.inq = s.inq ∧ (answerAction p s).state.outq = s.outq := by
  unfold answerAction
  repeat' split
  all_goals exact ⟨rfl, rfl⟩

theorem noAnswerAction_queues (s : State) :
    (noAnswerAction s).state.inq = s.inq ∧ (noAnswerAction s).state.outq = s.outq := by
  unfold noAnswerAction
  split <;> exact ⟨rfl, rfl⟩

/-- The three paths into `INQ`: DER and DNER in IDLE, and an accepted reply. -/
theorem frameHandler_inq (f : RxFrame) (s : State) :
    (frameHandler f s).inq = s.inq ∨
    (f.body.len ≠ 0 ∧ f.body.payloadOk = true ∧
      (frameHandler f s).inq = s.inq ++ [{ payload := f.body.payload, src := f.body.src }] ∧
      (s.ring.state = .idle ∧ (f.tag = 5 ∨ f.tag = 6) ∧ (f.body.dest = s.cfg.thisStation ∨ f.body.dest = 255) ∨
       s.ring.state = .waitForReply ∧ f.tag ∉ rejectSet)) := by
  have delivered := deliverIfGood_inq f.body s
  rcases frameHandler_cases f s with h | ⟨-, -, h⟩ | ⟨hw, ht, h⟩ | ⟨-, -, -, h⟩ | ⟨-, -, -, h⟩ | ⟨-, -, -, h⟩ |
    ⟨hs, hd, ht, h⟩ | ⟨hs, ht, hd, h⟩ | ⟨-, -, -, h⟩ <;> rw [h]
  case inr.inr.inl => exact delivered.imp_right fun ⟨hl, hok, hq⟩ => ⟨hl, hok, hq, .inr ⟨hw, ht⟩⟩
  case inr.inr.inr.inr.inr.inr.inl =>
    exact delivered.imp_right fun ⟨hl, hok, hq⟩ => ⟨hl, hok, hq, .inl ⟨hs, .inl ht, .inl hd⟩⟩
  case inr.inr.inr.inr.inr.inr.inr.inl =>
    exact delivered.imp_right fun ⟨hl, hok, hq⟩ => ⟨hl, hok, hq, .inl ⟨hs, ht, hd⟩⟩
  all_goals exact .inl rfl

/-- No evaluation touches `INQ`, so an event leaves there what its action does. -/
theorem phases_inq (port : Port) (i : Instr) (s : State) : (phases port (actionOf i) s).inq = (acted i s).inq := by
  rw [phases_eq]
  exact (evaluateIfSame_keeps _ _).inq

/-- Settles O54: a DEQUEUE takes the head, and an octet adds what the handler of its frame adds. -/
theorem inboundQueueChangesOnThreePathsOnly : Obligations.InboundQueueChangesOnThreePathsOnly := by
  intro i port t s s' ha hexec
  rw [exec_event i port t s ha] at hexec
  obtain rfl := Host.Outcome.next.inj hexec
  rcases eventStep_cases port t (actionOf i) s with ⟨r, he⟩ | ⟨-, -, he⟩ <;> rw [he]
  · exact .inl rfl
  rw [phases_inq]
  have checked : (abortCheck (setNow t s)).inq = s.inq := abortCheck_inq _
  cases i with
  | octet t' b =>
    obtain ⟨-, rfl⟩ := Prod.mk.inj (Option.some.inj ha)
    rcases acted_octet_cases t' b (setNow t' s) with ⟨-, hinq, -⟩ | ⟨f, hf, -, hact⟩
    · exact .inl hinq
    · rw [hact]
      rcases frameHandler_inq f (received b (setNow t' s)) with hkept | ⟨hl, hok, hq, hpath⟩
      · exact .inl hkept
      · exact .inr (.inr ⟨b, f, rfl, hf, hl, hok, hq, hpath⟩)
  | dequeue t' =>
    obtain ⟨-, rfl⟩ := Prod.mk.inj (Option.some.inj ha)
    refine .inr (.inl ⟨rfl, ?_⟩)
    rw [acted, actionOf, dequeueAction_eq]
    exact congrArg List.tail checked
  | enqueue t' p d er => left; rw [acted, actionOf, enqueueAction_eq]; exact checked
  | answer t' p => exact .inl ((answerAction_queues p _).1.trans checked)
  | noAnswer t' => exact .inl ((noAnswerAction_queues _).1.trans checked)
  | _ => exact .inl checked

/-! ## OUTQ (R371) -/

theorem sendIdleResponse_outq (s : State) : (sendIdleResponse s).outq = s.outq := by
  unfold sendIdleResponse
  split <;> rfl

/-- Sending the entry at the head. -/
theorem sendEntry_sends (e : OutEntry) (s : State) :
    (sendEntry e s).outq = s.outq ∧ ∃ ty, (ty = 5 ∨ ty = 6) ∧ (sendEntry e s).lineTx =
      s.lineTx ++ [{ time := s.timing.now, octets := encodeFrame ty e.dest s.cfg.thisStation e.payload }] := by
  by_cases hr : e.expectsReply = true ∧ e.dest ≠ broadcast
  · rw [sendEntry_request hr]
    exact ⟨rfl, 5, .inl rfl, rfl⟩
  · rw [sendEntry_data hr]
    exact ⟨rfl, 6, .inr rfl, rfl⟩

/-- u5 is the only evaluation rule that takes an entry from `OUTQ`, and it sends it (R268). -/
theorem evaluate_outq (s : State) :
    (evaluate s).outq = s.outq ∨
    (s.ring.state = .useToken ∧ s.ring.frameCount.toNat < s.cfg.nmaxInfoFrames.toNat ∧
      ∃ e ty, s.outq = e :: (evaluate s).outq ∧ (ty = 5 ∨ ty = 6) ∧ (evaluate s).lineTx =
        s.lineTx ++ [{ time := s.timing.now, octets := encodeFrame ty e.dest s.cfg.thisStation e.payload }]) := by
  cases hs : s.ring.state
  case useToken =>
    by_cases he : s.cfg.tUsageTimeout.setWidth 64 ≤ s.timing.now - s.timing.tsUsage
    · rw [evaluate_useToken_expired hs he]; exact .inl rfl
    by_cases hl : s.cfg.nmaxInfoFrames.toNat ≤ s.ring.frameCount.toNat
    · rw [evaluate_useToken_limit hs he hl]; exact .inl rfl
    cases hq : s.outq with
    | nil => rw [evaluate_useToken_empty hs he hl hq]; exact .inl hq
    | cons e rest =>
      by_cases ht : s.tTurnaround ≤ s.timing.now - s.timing.rxLast
      · rw [evaluate_useToken_sends hs he hl hq ht]
        obtain ⟨hrest, ty, hty, hline⟩ := sendEntry_sends e { s with outq := rest }
        exact .inr ⟨rfl, Nat.lt_of_not_le hl, e, ty, congrArg (e :: ·) hrest.symm, hty, hline⟩
      · rw [evaluate_useToken_holds hs he hl hq ht]; exact .inl hq
  all_goals
    left
    simp only [evaluate, hs]
  case init => unfold evalInitialize; split <;> rfl
  case idle =>
    unfold evalIdle
    repeat' split
    all_goals simp [sendIdleResponse_outq]
  case waitForReply => unfold evalWaitForReply; split <;> rfl
  case doneWithToken => unfold evalDoneWithToken; split <;> rfl
  case passToken =>
    simp only [evalPassToken]
    repeat' split
    all_goals simp
  case noToken => unfold evalNoToken; split <;> rfl
  case pollForMaster =>
    simp only [evalPollForMaster, nextProbe]
    repeat' split
    all_goals simp
  case answerDataRequest =>
    simp only [evalAnswer, evalAnswerMaximum, evalAnswerMinimum]
    repeat' split
    all_goals simp

/-- Only ENQUEUE's own action writes `OUTQ`. -/
theorem acted_outq (i : Instr) (s : State) :
    (acted i s).outq = s.outq ∨ ∃ t p d er, i = .enqueue t p d er ∧ s.outq.length < s.build.outqCap ∧
      (acted i s).outq = s.outq ++ [{ payload := p, dest := d, expectsReply := er }] := by
  have checked : (abortCheck s).outq = s.outq := abortCheck_outq s
  cases i with
  | octet t b =>
    rcases acted_octet_cases t b s with ⟨-, -, houtq⟩ | ⟨f, -, -, hact⟩
    · exact .inl houtq
    · rw [hact]
      exact .inl (frameHandler_keeps f _).outq
  | enqueue t p d er =>
    rw [acted, actionOf, enqueueAction_eq, abortCheck_outq, abortCheck_build]
    by_cases hno : s.build.maxPayload < p.length ∨ s.build.outqCap ≤ s.outq.length
    · exact .inl (if_pos hno)
    · exact .inr ⟨t, p, d, er, rfl, Nat.lt_of_not_le fun h => hno (.inr h), if_neg hno⟩
  | dequeue t => left; rw [acted, actionOf, dequeueAction_eq]; exact checked
  | answer t p => exact .inl ((answerAction_queues p _).2.trans checked)
  | noAnswer t => exact .inl ((noAnswerAction_queues _).2.trans checked)
  | _ => exact .inl checked

/-- No event's own action touches the ring registers in USE_TOKEN: a frame is ignored there (R290). -/
theorem acted_useToken (i : Instr) {s : State} (hs : s.ring.state = .useToken) : (acted i s).ring = s.ring := by
  have hw : s.ring.state ≠ .waitForReply := by simp [hs]
  by_cases hi : ∃ t b, i = .octet t b
  · obtain ⟨t, b, rfl⟩ := hi
    rcases acted_octet_cases t b s with ⟨hring, -, -⟩ | ⟨f, -, -, hact⟩
    · rw [hring, abortCheck_ring_eq hw]
    · have hr : (received b s).ring.state = .useToken := hs
      rw [hact]
      rcases frameHandler_cases f (received b s) with h | ⟨h, -⟩ | ⟨h, -⟩ | ⟨h, -⟩ | ⟨h, -⟩ | ⟨h, -⟩ | ⟨h, -⟩ |
        ⟨h, -⟩ | ⟨h, -⟩
      · rw [h]; rfl
      all_goals
        rw [hr] at h
        cases h
  · exact acted_ring_eq (fun t b h => hi ⟨t, b, h⟩) hw (by simp [hs])

/-- Settles O55: the action of an event may have queued an entry, and the evaluation may send the head. -/
theorem outboundQueueIsDrainedOnlyInUseToken : Obligations.OutboundQueueIsDrainedOnlyInUseToken := by
  intro i port t s s' ha hexec
  rw [exec_event i port t s ha] at hexec
  obtain rfl := Host.Outcome.next.inj hexec
  rcases eventStep_cases port t (actionOf i) s with ⟨r, he⟩ | ⟨-, -, he⟩ <;> rw [he]
  · exact ⟨s.outq, .inl rfl, .inl rfl⟩
  refine ⟨(acted i (setNow t s)).outq, ?_, ?_⟩
  · rcases acted_outq i (setNow t s) with h | ⟨t', p, d, er, rfl, hroom, h⟩
    · exact .inl h
    · obtain ⟨-, rfl⟩ := Prod.mk.inj (Option.some.inj ha)
      exact .inr ⟨p, d, er, rfl, hroom, h⟩
  · rw [phases_eq, respond_outq, respond_lineTx]
    rcases evaluateIfSame_cases (setNow t s).ring.state (acted i (setNow t s)) with ⟨hsame, hev⟩ | ⟨-, hev⟩ <;>
      rw [hev]
    · rcases evaluate_outq (acted i (setNow t s)) with h | ⟨hs, hlimit, e, ty, hq, hty, hline⟩
      · exact .inl h
      · have hus : s.ring.state = .useToken := hsame.symm.trans hs
        obtain ⟨hlineTx, hcfg, -⟩ := acted_keeps i (setNow t s)
        rw [acted_useToken i (s := setNow t s) hus, hcfg] at hlimit
        rw [hlineTx, hcfg, acted_now] at hline
        exact .inr ⟨hus, hlimit, e, ty, hq, hty, hline⟩
    · exact .inl rfl

end Sys2Proof.Machine
end

section
/-! PROOF. The range invariants of R90: RESET establishes them (O17, O47, with the intervals of O18) and every step keeps
them (O48). -/

namespace Sys2Proof.Machine

/-! ## The intervals in bit times (R352) -/

/-- Settles O18: rounding up adds less than one divisor, and the quotient fits its word. -/
theorem bitTimesRoundUp : Obligations.BitTimesRoundUp := by
  intro n rate hn hrate
  have hquot := Nat.div_add_mod (n.toNat * 1000000 + rate.toNat - 1) rate.toNat
  have hrem := Nat.mod_lt (n.toNat * 1000000 + rate.toNat - 1) hrate
  have hpos : 1 ≤ (n.toNat * 1000000 + rate.toNat - 1) / rate.toNat := (Nat.one_le_div_iff hrate).mpr (by omega)
  have hle := Nat.div_le_self (n.toNat * 1000000 + rate.toNat - 1) rate.toNat
  have hword : (bitTimes n rate).toNat = (n.toNat * 1000000 + rate.toNat - 1) / rate.toNat := by
    rw [bitTimes, BitVec.toNat_ofNat, Nat.mod_eq_of_lt (by omega)]
  rw [hword, Nat.sub_mul, Nat.one_mul]
  generalize (n.toNat * 1000000 + rate.toNat - 1) / rate.toNat = q at *
  rw [Nat.mul_comm] at hquot
  have hwhole : rate.toNat ≤ q * rate.toNat := Nat.le_mul_of_pos_left _ hpos
  omega

/-! ## The receiver's registers (R60, R65, R67) -/

/-- Outside HEADER and DATA only the stored payload is bounded. -/
theorem Rx.Inv.of_searching {m : Nat} {rx : Rx} (hb : rx.buf.length ≤ m)
    (hs : rx.state = .hunt ∨ rx.state = .preamble) : rx.Inv m := by
  constructor
  case bufFits => exact hb
  all_goals
    intro hst
    rcases hs with hs | hs <;> simp [hs] at hst

/-- Everything but the index and the checksums, in HEADER. -/
theorem Rx.Inv.of_header {m : Nat} {rx : Rx} (hb : rx.buf.length ≤ m) (hs : rx.state = .header)
    (hi : rx.index.toNat ≤ 5) : rx.Inv m := by
  constructor
  case bufFits => exact hb
  case headerIndex => exact fun _ => hi
  all_goals
    intro hst
    simp [hs] at hst

/-- What R60, R65 and R67 say in DATA bounds the stored payload too. -/
theorem Rx.Inv.of_data {m : Nat} {rx : Rx} (hs : rx.state = .data) (hi : rx.index.toNat ≤ rx.len.toNat + 1)
    (hl : rx.len ≠ 0) (hk : rx.keep = decide (rx.len.toNat ≤ m))
    (hb : rx.buf.length = if rx.keep then min rx.index.toNat rx.len.toNat else 0) : rx.Inv m where
  bufFits := by
    rw [hb]
    split
    · have hfits : rx.len.toNat ≤ m := by simpa [hk] using ‹rx.keep = true›
      exact (Nat.min_le_right _ _).trans hfits
    · exact Nat.zero_le m
  headerIndex hst := by simp [hs] at hst
  dataIndex _ := hi
  dataLen _ := hl
  dataKeep _ := hk
  dataBuf _ := hb

theorem scanHeaderGood_inv {m : Nat} {rx : Rx} (hb : rx.buf.length ≤ m) : (scanHeaderGood m rx).rx.Inv m := by
  by_cases hl : rx.headerLen = 0
  · rw [scanHeaderGood_empty hl]
    exact .of_searching hb (.inl rfl)
  · rw [scanHeaderGood_data hl]
    exact .of_data rfl (Nat.zero_le _) hl rfl (by simp [ScanResult.quiet])

/-- The index counts on without wrapping. -/
theorem index_succ_toNat {rx : Rx} (hi : rx.index.toNat ≤ rx.len.toNat + 1) :
    (rx.index + 1).toNat = rx.index.toNat + 1 := by
  have hlen := rx.len.isLt
  bv_omega

/-- A scanned octet keeps the receiver's invariants. -/
theorem scan_inv {m : Nat} {rx : Rx} (h : rx.Inv m) (b : Byte) : (scan m rx b).rx.Inv m := by
  cases hs : rx.state with
  | hunt =>
    rw [scan_hunt hs]
    by_cases hb : b = sync1
    · rw [if_pos hb]; exact .of_searching h.bufFits (.inr rfl)
    · rw [if_neg hb]; exact h
  | preamble =>
    rw [scan_preamble hs]
    by_cases h2 : b = sync2
    · rw [if_pos h2]; exact .of_header h.bufFits rfl (Nat.zero_le 5)
    by_cases h1 : b = sync1
    · rw [if_neg h2, if_pos h1]; exact h
    · rw [if_neg h2, if_neg h1]; exact .of_searching h.bufFits (.inl rfl)
  | header =>
    have hi := h.headerIndex hs
    rcases Nat.lt_or_eq_of_le hi with hlt | heq
    · rw [scan_header_covered hs hlt]
      exact .of_header h.bufFits hs (by simp only [ScanResult.quiet]; bv_omega)
    by_cases hb : b = ~~~ rx.hcrc
    · rw [scan_header_match hs heq hb]
      exact scanHeaderGood_inv h.bufFits
    · rw [scan_header_mismatch hs heq hb]
      exact .of_searching h.bufFits (.inl rfl)
  | data =>
    have hi := h.dataIndex hs
    have hnext := index_succ_toNat hi
    have hbuf := h.dataBuf hs
    rcases Nat.lt_trichotomy rx.index.toNat rx.len.toNat with hlt | heq | hgt
    · rw [scan_data_payload hs hlt]
      refine .of_data hs (by simp only [ScanResult.quiet]; omega) (h.dataLen hs) (h.dataKeep hs) ?_
      simp only [ScanResult.quiet, hnext]
      cases hk : rx.keep with
      | false => simpa [hk] using hbuf
      | true =>
        rw [hk, if_pos rfl] at hbuf
        rw [if_pos rfl, if_pos rfl, List.length_append, List.length_singleton]
        omega
    · rw [scan_data_crcLo hs heq]
      refine .of_data hs (by simp only [ScanResult.quiet]; omega) (h.dataLen hs) (h.dataKeep hs) ?_
      simp only [ScanResult.quiet, hnext, hbuf, heq]
      split <;> omega
    · rw [scan_data_crcHi hs (by omega)]
      exact .of_searching h.bufFits (.inl rfl)

/-- A frame whose payload, if good, is not empty, and fits (R375, R90). -/
structure PayloadFits (m : Nat) (f : Received) : Prop where
  pos : f.len ≠ 0 ∧ f.payloadOk = true → 1 ≤ f.payload.length
  le : f.payload.length ≤ m

/-- The frames the receiver completes fit. -/
theorem scan_frame_fits {m : Nat} {rx : Rx} {b : Byte} {f : RxFrame} (h : rx.Inv m)
    (hf : (scan m rx b).frame = some f) : PayloadFits m f.body := by
  refine ⟨fun hgood => ?_, (scan_frame_payload_length_le hf).trans h.bufFits⟩
  obtain ⟨-, ⟨-, -, -, rfl⟩ | ⟨hs, hi, ok, hok, rfl⟩⟩ := scan_frame m rx b f hf
  · exact absurd rfl hgood.1
  · obtain rfl : ok = true := hgood.2
    have hk : rx.keep = true := by
      by_contra hk
      simp [hk] at hok
    have hlen : 0 < rx.len.toNat := Nat.pos_of_ne_zero fun h0 => h.dataLen hs (BitVec.eq_of_toNat_eq h0)
    have hbuf := h.dataBuf hs
    rw [if_pos hk] at hbuf
    simp only [if_true]
    omega

/-! ## The primitives keep the invariants -/

section Primitives

variable {s : State}

theorem succ_le_nmaxMaster (cfg : Cfg) (a : Addr) : succ cfg a ≤ cfg.nmaxMaster := by
  have hmod : (a.toNat + 1) % (cfg.nmaxMaster.toNat + 1) < cfg.nmaxMaster.toNat + 1 :=
    Nat.mod_lt _ (Nat.succ_pos _)
  have hmax := cfg.nmaxMaster.isLt
  rw [BitVec.le_def, succ, BitVec.toNat_ofNat, Nat.mod_eq_of_lt (by omega)]
  omega

theorem setNow_configured {t : Time} (h : s.Configured) (ht : s.timing.now ≤ t) : (setNow t s).Configured :=
  { h with
    timers := fun tm => by
      have hstart : (setNow t s).start tm = s.start tm := by cases tm <;> rfl
      rw [hstart]
      exact BitVec.le_trans (h.timers tm) ht
    rxLast := BitVec.le_trans h.rxLast ht }

variable (h : s.Configured)
include h

theorem count_configured (c : Counter) : (count c s).Configured := { h with }

theorem setRingState_configured (st : RingState) : (setRingState st s).Configured := { h with }

theorem tx_configured (ty dest : Byte) (p : Octets) : (tx ty dest p s).Configured := { h with }

theorem respond_configured (port : Port) (r : Result) (e : Option InEntry) : (respond port r e s).Configured :=
  { h with }

theorem rxToHunt_configured : (rxToHunt s).Configured :=
  { h with rxOk := .of_searching h.rxOk.bufFits (.inl rfl) }

theorem arm_configured (tm : Timer) : (arm tm s).Configured :=
  { h with
    timers := fun tm' => by
      have hnow : ∀ x, x = s.timing.now ∨ x = s.start tm' → x ≤ s.timing.now := by
        rintro x (rfl | rfl)
        · exact BitVec.le_refl _
        · exact h.timers tm'
      rw [arm_timing, timing_set_now]
      refine hnow _ ?_
      cases tm <;> cases tm' <;> simp [State.start, arm]
    rxLast := by
      rw [arm_timing, timing_set_now, timing_set_rxLast]
      exact h.rxLast }

theorem enterIdle_configured : (enterIdle s).Configured :=
  { arm_configured (setRingState_configured h .idle) .noToken with }

theorem enterUseToken_configured : (enterUseToken s).Configured :=
  { arm_configured (setRingState_configured h .useToken) .usage with frameCount := Nat.zero_le _ }

theorem enterWaitForReply_configured : (enterWaitForReply s).Configured :=
  arm_configured (setRingState_configured h .waitForReply) .reply

theorem enterPollForMaster_configured : (enterPollForMaster s).Configured :=
  { arm_configured (setRingState_configured h .pollForMaster) .noToken with
    pollStation := succ_le_nmaxMaster _ _ }

theorem enterAnswer_configured (src : Addr) : (enterAnswer src s).Configured :=
  { arm_configured (setRingState_configured h .answerDataRequest) .replyDelay with }

theorem promote_configured : (promote s).Configured :=
  enterUseToken_configured (s := { s with ring := { s.ring with
    soleMaster := true, nextStation := s.cfg.thisStation } }) { h with }

theorem setPfmSent_configured (v : Bool) : (setPfmSent v s).Configured := { h with }

theorem sendProbe_configured : (sendProbe s).Configured := arm_configured (tx_configured h _ _ _) .poll

theorem bumpTokenCount_configured : (bumpTokenCount s).Configured := { h with }

theorem sendReply_configured : (sendReply s).Configured :=
  enterIdle_configured (s := { tx tagDner s.ring.replyTo s.ring.replyPayload s with
    ring := { s.ring with replyValid := false } }) { h with }

theorem advancePoll_configured : (advancePoll s).Configured :=
  { h with pollStation := succ_le_nmaxMaster _ _ }

/-- Below the limit of the hold the frame count may grow by one (R268). -/
theorem bumpFrameCount_configured (hl : s.ring.frameCount.toNat < s.cfg.nmaxInfoFrames.toNat) :
    (bumpFrameCount s).Configured :=
  { h with
    frameCount := by
      rw [bumpFrameCount_ring, bumpFrameCount_cfg, BitVec.toNat_add]
      exact (Nat.mod_le _ _).trans hl }

theorem sendEntry_configured (e : OutEntry) (hl : s.ring.frameCount.toNat < s.cfg.nmaxInfoFrames.toNat) :
    (sendEntry e s).Configured := by
  have sent (ty : Byte) : (bumpFrameCount (tx ty e.dest e.payload s)).Configured :=
    bumpFrameCount_configured (tx_configured h ty e.dest e.payload) hl
  by_cases hr : e.expectsReply = true ∧ e.dest ≠ broadcast
  · rw [sendEntry_request hr]
    exact enterWaitForReply_configured (sent tagDer)
  · rw [sendEntry_data hr]
    exact sent tagDner

theorem sendIdleResponse_configured : (sendIdleResponse s).Configured := by
  unfold sendIdleResponse
  split
  · exact h
  · exact tx_configured h _ _ _
  · exact tx_configured h _ _ _

theorem clearIdleResponse_configured : (clearIdleResponse s).Configured := { h with }

theorem abortCheck_configured : (abortCheck s).Configured := by
  have discarded := count_configured (rxToHunt_configured h) .frameAbort
  rcases abortCheck_cases s with he | ⟨-, -, he⟩ | ⟨-, -, ⟨-, he⟩ | ⟨-, he⟩⟩ <;> rw [he]
  · exact h
  · exact rxToHunt_configured h
  · exact discarded
  · exact setRingState_configured discarded .doneWithToken

/-! ## The evaluation keeps them -/

theorem evalUseToken_configured : (evalUseToken s).Configured := by
  unfold evalUseToken
  split
  · exact setRingState_configured h .doneWithToken
  split
  · exact setRingState_configured h .doneWithToken
  rename_i hlimit
  cases hq : s.outq with
  | nil => exact setRingState_configured h .doneWithToken
  | cons e rest =>
    simp only [qPop]
    split
    · refine sendEntry_configured (s := { s with outq := rest }) ?_ e (Nat.lt_of_not_le hlimit)
      have hlen := h.outqLen
      have hfits := h.outqFits
      rw [hq] at hlen hfits
      exact { h with
        outqLen := (Nat.le_succ _).trans hlen
        outqFits := fun e' he' => hfits e' (List.mem_cons_of_mem e he') }
    · exact h

theorem nextProbe_configured : (nextProbe s).Configured := by
  by_cases ho : succ s.cfg s.ring.pollStation = s.cfg.thisStation
  · rw [nextProbe_promotes ho]
    exact promote_configured (setPfmSent_configured (advancePoll_configured h) false)
  by_cases ht : s.tTurnaround ≤ s.timing.now - s.timing.rxLast
  · rw [nextProbe_probes ho ht]
    exact sendProbe_configured (advancePoll_configured h)
  · rw [nextProbe_pauses ho ht]
    exact setPfmSent_configured (advancePoll_configured h) false

theorem evaluate_configured : (evaluate s).Configured := by
  cases hs : s.ring.state <;> simp only [evaluate, hs]
  case init => unfold evalInitialize; split; exacts [enterIdle_configured h, h]
  case idle =>
    unfold evalIdle
    split
    · split
      exacts [clearIdleResponse_configured (sendIdleResponse_configured h), h]
    · split
      exacts [enterPollForMaster_configured h, h]
  case useToken => exact evalUseToken_configured h
  case waitForReply => unfold evalWaitForReply; split; exacts [setRingState_configured h _, h]
  case doneWithToken =>
    unfold evalDoneWithToken
    split
    · exact enterPollForMaster_configured (s := { s with ring := { s.ring with tokenCount := 0 } }) { h with }
    · exact setRingState_configured h .passToken
  case passToken =>
    have passed := bumpTokenCount_configured (tx_configured h tagToken s.ring.nextStation [])
    simp only [evalPassToken]
    split
    · split
      exacts [enterUseToken_configured passed, enterIdle_configured passed]
    · exact h
  case noToken => unfold evalNoToken; split; exacts [enterPollForMaster_configured h, h]
  case pollForMaster =>
    unfold evalPollForMaster
    repeat' split
    exacts [enterIdle_configured h, nextProbe_configured h, h, promote_configured h,
      setPfmSent_configured (sendProbe_configured h) true, h]
  case answerDataRequest =>
    unfold evalAnswer evalAnswerMaximum evalAnswerMinimum
    repeat' split
    exacts [sendReply_configured h, h, enterIdle_configured h, h, sendReply_configured h, h, enterIdle_configured h,
      h, h]

/-! ## The frame handlers and the events' own actions keep them -/

theorem deliverIfGood_configured {f : Received} (hf : PayloadFits s.build.maxPayload f) : (deliverIfGood f s).Configured := by
  rcases deliverIfGood_cases f s with ⟨-, he⟩ | ⟨-, -, -, he⟩ | ⟨hl, hok, hroom, he⟩ <;> rw [he]
  · exact h
  · exact count_configured h .inqOverflow
  · refine { h with inqLen := ?_, inqFits := fun e hin => ?_ }
    · rw [List.length_append]
      exact hroom
    · rcases List.mem_append.mp hin with hin | hin
      · exact h.inqFits e hin
      · obtain rfl := List.mem_singleton.mp hin
        exact ⟨hf.pos ⟨hl, hok⟩, hf.le⟩

/-- A response owed has a payload that fits. -/
theorem owe_configured (kind : IdleRespKind) (dest : Addr) {p : Octets} (hp : p.length ≤ s.build.maxPayload) :
    (owe kind dest p s).Configured :=
  { h with idleRespFits := hp }

theorem frameHandler_configured {f : RxFrame} (hf : PayloadFits s.build.maxPayload f.body) :
    (frameHandler f s).Configured := by
  have delivered := deliverIfGood_configured h hf
  rcases frameHandler_cases f s with he | ⟨-, -, he⟩ | ⟨-, -, he⟩ | ⟨-, -, -, he⟩ | ⟨-, -, -, he⟩ | ⟨-, -, -, he⟩ |
    ⟨-, -, -, he⟩ | ⟨-, -, -, he⟩ | ⟨-, -, -, he⟩ <;> rw [he]
  · exact h
  · exact enterIdle_configured (count_configured h .anomaly)
  · exact setRingState_configured delivered .doneWithToken
  · exact enterUseToken_configured h
  · exact owe_configured h _ _ (Nat.zero_le _)
  · refine owe_configured h _ _ ?_
    split
    exacts [hf.le, Nat.zero_le _]
  · exact enterAnswer_configured delivered f.body.src
  · exact delivered
  · exact { h with }

theorem received_configured (b : Byte) : (received b s).Configured := by
  refine { h with timers := fun tm => ?_, rxLast := BitVec.le_refl _, rxOk := scan_inv h.rxOk b }
  cases tm
  case noToken =>
    simp only [start_noToken, received]
    split
    exacts [BitVec.le_refl _, h.timers .noToken]
  case reply => exact h.timers .reply
  case replyDelay => exact h.timers .replyDelay
  case usage => exact h.timers .usage
  case poll => exact h.timers .poll

theorem octetAction_configured (b : Byte) : (octetAction b s).state.Configured := by
  cases hf : (scan s.build.maxPayload s.rx b).frame with
  | none =>
    rw [octetAction_none b s hf]
    exact { received_configured h b with }
  | some f =>
    rw [octetAction_some b s f hf]
    exact frameHandler_configured (received_configured h b) (scan_frame_fits h.rxOk hf)

theorem enqueueAction_configured (p : Octets) (d : Addr) (er : Bool) : (enqueueAction p d er s).state.Configured := by
  unfold enqueueAction
  split
  · exact h
  rename_i hshort
  split
  · exact count_configured h .outqReject
  rename_i hroom
  refine { h with outqLen := ?_, outqFits := fun e he => ?_ }
  · simp only [Acted.plain, qPush, List.length_append, List.length_singleton]
    omega
  · rcases List.mem_append.mp he with he | he
    · exact h.outqFits e he
    · obtain rfl := List.mem_singleton.mp he
      exact Nat.le_of_not_lt hshort

theorem dequeueAction_configured : (dequeueAction s).state.Configured := by
  rw [dequeueAction_eq]
  refine { h with inqLen := ?_, inqFits := fun e he => h.inqFits e (List.mem_of_mem_tail he) }
  exact (by simp [setInq] : (setInq s.inq.tail s).inq.length ≤ s.inq.length).trans h.inqLen

theorem answerAction_configured (p : Octets) : (answerAction p s).state.Configured := by
  unfold answerAction
  split
  · split
    · exact h
    · rename_i hshort
      exact { h with replyFits := Nat.le_of_not_lt hshort }
  · exact h

theorem noAnswerAction_configured : (noAnswerAction s).state.Configured := by
  unfold noAnswerAction
  split
  exacts [enterIdle_configured h, h]

theorem actionOf_configured (i : Instr) : (actionOf i s).state.Configured := by
  cases i with
  | octet t b => exact octetAction_configured h b
  | enqueue t p d er => exact enqueueAction_configured h p d er
  | dequeue t => exact dequeueAction_configured h
  | answer t p => exact answerAction_configured h p
  | noAnswer t => exact noAnswerAction_configured h
  | _ => exact h

theorem evaluateIfSame_configured (s0 : RingState) : (evaluateIfSame s0 s).Configured := by
  rcases evaluateIfSame_cases s0 s with ⟨-, he⟩ | ⟨-, he⟩ <;> rw [he]
  exacts [evaluate_configured h, h]

theorem phases_configured (port : Port) (i : Instr) : (phases port (actionOf i) s).Configured :=
  respond_configured
    (evaluateIfSame_configured (actionOf_configured (abortCheck_configured h) i) s.ring.state) port _ _

end Primitives

/-! ## RESET establishes them, and every step keeps them -/

/-- A RESET with a valid configuration leaves every register in its range (R450, R452). -/
theorem resetRegisters_configured {cfg : Cfg} (hc : validCfg cfg = true) (t : Time) (s : State) :
    (resetRegisters t cfg s).Configured := by
  obtain ⟨-, hstation, -⟩ := (validCfg_iff cfg).mp hc
  constructor
  case cfgOk => exact hc
  case frameAbort | turnaround => rfl
  case frameCount | outqLen | inqLen | replyFits | idleRespFits => exact Nat.zero_le _
  case outqFits | inqFits => exact fun e he => absurd he List.not_mem_nil
  case timers => intro tm; cases tm <;> exact BitVec.le_refl t
  case rxLast => exact BitVec.le_refl t
  case pollStation => exact hstation
  case rxOk => exact .of_searching (Nat.zero_le _) (.inl rfl)

theorem resetStep_inv {s : State} (h : s.Inv) (t : Time) (cfg : Cfg) : (resetStep t cfg s).Inv := by
  cases hc : validCfg cfg with
  | true =>
    rw [resetStep_valid t s hc, enterInitialize_resetRegisters]
    exact ⟨h.buildOk, fun _ => respond_configured (resetRegisters_configured hc t s) _ _ _⟩
  | false =>
    rw [resetStep_invalid t s hc]
    exact ⟨h.buildOk, fun hv => absurd hv Bool.false_ne_true⟩

theorem eventStep_inv {s : State} (h : s.Inv) (port : Port) (t : Time) (i : Instr) :
    (eventStep port t (actionOf i) s).Inv := by
  have hkeep := eventStep_event port t i s
  refine ⟨by rw [hkeep.build]; exact h.buildOk, fun hv => ?_⟩
  have hc := h.configured (hkeep.cfgValid ▸ hv)
  rcases eventStep_cases port t (actionOf i) s with ⟨r, he⟩ | ⟨-, ht, he⟩ <;> rw [he]
  · exact respond_configured hc port r none
  · exact phases_configured (setNow_configured hc ht) port i

/-- Settles O48: a step is idle, a RESET or an event. -/
theorem everyStepKeepsTheInvariant : Obligations.EveryStepKeepsTheInvariant := by
  intro s s' hinv hstep
  rcases step_cases hstep with ⟨-, rfl⟩ | ⟨record, rest, i, -, hd, hexec⟩
  · exact hinv
  rcases decodeEvent_event hd with ⟨t, cfg, rfl⟩ | ⟨port, t, ha⟩
  · obtain rfl : resetStep t cfg { s with inbox := rest } = s' := Host.Outcome.next.inj hexec
    exact resetStep_inv (hinv.withInbox rest) t cfg
  · rw [exec_event i port t _ ha] at hexec
    obtain rfl := Host.Outcome.next.inj hexec
    exact eventStep_inv (hinv.withInbox rest) port t i

theorem validCfg_default : validCfg (Cfg.default 0) = true := by decide

/-- The intervals of `State.reset` are those of the default configuration. -/
theorem resetRegisters_default (s : State) :
    resetRegisters 0 (Cfg.default 0) { s with build := BuildParams.default } =
      { State.reset with inbox := s.inbox, lineTx := s.lineTx, responses := s.responses } := rfl

/-- Settles O17: what a valid RESET leaves, at the default configuration. -/
theorem resetStateIsWhatResetLeaves : Obligations.ResetStateIsWhatResetLeaves := by
  intro s
  refine congrArg Host.Outcome.next ((resetStep_valid 0 _ validCfg_default).trans ?_)
  rw [enterInitialize_resetRegisters]
  exact congrArg (respond .control .ok none) (resetRegisters_default s)

/-- Settles O47: the reset state is what a valid RESET leaves. -/
theorem resetSatisfiesTheInvariant : Obligations.ResetSatisfiesTheInvariant :=
  ⟨by decide, fun _ => resetRegisters_configured validCfg_default 0 State.reset⟩

end Sys2Proof.Machine
end

section
/-! PROOF. Noninterference: what the queues (O56), the counters (O57) and SOLE_MASTER (O58) do not affect. Some registers
are hidden, and every operation is shown to leave the same visible state whatever the hidden ones held. -/

namespace Sys2Proof.Machine

/-! ## Hidden registers -/

/-- Which registers are hidden. -/
structure Hidden where
  cnt : Bool
  soleMaster : Bool
  inq : Bool
  outq : Bool
  responses : Bool

/-- A queue is hidden together with what its length decides: the counters of what it refused, and the answers. -/
def Hidden.Closed (h : Hidden) : Prop := h.inq = true ∨ h.outq = true → h.cnt = true ∧ h.responses = true

/-- The state with the hidden registers overwritten. -/
def hide (h : Hidden) (s : State) : State :=
  { s with
    cnt := bif h.cnt then State.reset.cnt else s.cnt
    ring := { s.ring with soleMaster := bif h.soleMaster then false else s.ring.soleMaster }
    inq := bif h.inq then [] else s.inq
    outq := bif h.outq then [] else s.outq
    responses := bif h.responses then [] else s.responses }

/-- Hiding the registers first makes no visible difference to what `op` leaves. -/
def Blind (h : Hidden) (op : State → State) : Prop := ∀ s, hide h (op (hide h s)) = hide h (op s)

section Blindness

variable {h : Hidden}

theorem bif_bif {α : Type} (b : Bool) (x y z : α) : (bif b then x else bif b then y else z) = bif b then x else z := by
  cases b <;> rfl

theorem hide_hide (s : State) : hide h (hide h s) = hide h s := by
  simp only [hide, bif_bif]

/-- States that agree on the visible registers are taken to such states. -/
theorem Blind.agree {op : State → State} (hop : Blind h op) {s u : State} (hsu : hide h s = hide h u) :
    hide h (op s) = hide h (op u) := by
  rw [← hop s, hsu, hop u]

theorem Blind.comp {f g : State → State} (hg : Blind h g) (hf : Blind h f) : Blind h fun s => g (f s) :=
  fun s => hg.agree (hf s)

/-- An operation that neither reads nor writes a hidden register. -/
theorem Blind.of_commutes {op : State → State} (hop : ∀ s, op (hide h s) = hide h (op s)) : Blind h op := fun s => by
  rw [hop, hide_hide]

/-- An operation that writes hidden registers only. -/
theorem Blind.of_invisible {op : State → State} (hop : ∀ s, hide h (op s) = hide h s) : Blind h op := fun s => by
  rw [hop, hop, hide_hide]

theorem Blind.same : Blind h fun s => s := .of_commutes fun _ => rfl

/-- A choice by a condition on the visible registers. -/
theorem Blind.ite {p : State → Prop} [DecidablePred p] {f g : State → State} (hp : ∀ s, p (hide h s) ↔ p s)
    (hf : Blind h f) (hg : Blind h g) : Blind h fun s => if p s then f s else g s := by
  intro s
  by_cases hs : p s
  · simp only [hp, if_pos hs]; exact hf s
  · simp only [hp, if_neg hs]; exact hg s

/-- An operation that depends on a visible value. -/
theorem Blind.of_visible {α : Type} (v : State → α) {op : α → State → State} (hv : ∀ s, v (hide h s) = v s)
    (hop : ∀ a, Blind h (op a)) : Blind h fun s => op (v s) s := by
  intro s
  show hide h (op (v (hide h s)) (hide h s)) = hide h (op (v s) s)
  rw [hv]
  exact hop (v s) s

theorem hide_outq (ho : h.outq = false) (s : State) : (hide h s).outq = s.outq := by
  simp only [hide, ho, cond_false]

theorem hide_inq (hi : h.inq = false) (s : State) : (hide h s).inq = s.inq := by
  simp only [hide, hi, cond_false]

/-! ## The primitives -/

theorem blind_count (k : Counter) : Blind h (count k) := fun s => by
  cases hc : h.cnt <;> simp only [hide, count, hc, bif_bif, cond_true, cond_false]

theorem blind_arm (tm : Timer) : Blind h (arm tm) := .of_commutes fun _ => rfl
theorem blind_setRingState (st : RingState) : Blind h (setRingState st) := .of_commutes fun _ => rfl
theorem blind_enterIdle : Blind h enterIdle := .of_commutes fun _ => rfl
theorem blind_enterUseToken : Blind h enterUseToken := .of_commutes fun _ => rfl
theorem blind_enterWaitForReply : Blind h enterWaitForReply := .of_commutes fun _ => rfl
theorem blind_enterPollForMaster : Blind h enterPollForMaster := .of_commutes fun _ => rfl
theorem blind_enterAnswer (src : Addr) : Blind h (enterAnswer src) := .of_commutes fun _ => rfl
theorem blind_owe (k : IdleRespKind) (d : Addr) (p : Octets) : Blind h (owe k d p) := .of_commutes fun _ => rfl
theorem blind_bumpFrameCount : Blind h bumpFrameCount := .of_commutes fun _ => rfl
theorem blind_bumpTokenCount : Blind h bumpTokenCount := .of_commutes fun _ => rfl
theorem blind_setPfmSent (v : Bool) : Blind h (setPfmSent v) := .of_commutes fun _ => rfl
theorem blind_clearIdleResponse : Blind h clearIdleResponse := .of_commutes fun _ => rfl
theorem blind_rxToHunt : Blind h rxToHunt := .of_commutes fun _ => rfl
theorem blind_advancePoll : Blind h advancePoll := .of_commutes fun _ => rfl
theorem blind_emit (os : Octets) : Blind h (emit os) := .of_commutes fun _ => rfl
theorem blind_setNow (t : Time) : Blind h (setNow t) := .of_commutes fun _ => rfl
theorem blind_stampRxLast : Blind h stampRxLast := .of_commutes fun _ => rfl

/-- SOLE_MASTER is written and not read. -/
theorem blind_promote : Blind h promote := fun s => by
  simp only [hide, promote_eq, bif_bif]

theorem blind_acceptPollReply (f : Received) : Blind h (acceptPollReply f) := fun s => by
  simp only [hide, acceptPollReply, bif_bif]

theorem blind_tx (ty dest : Byte) (p : Octets) : Blind h (tx ty dest p) :=
  (Blind.comp (blind_count .framesTx)
    (.of_visible (fun s => encodeFrame ty dest s.cfg.thisStation p) (fun _ => rfl) blind_emit) :)

theorem blind_sendProbe : Blind h sendProbe :=
  (Blind.comp (blind_arm .poll)
    (.of_visible (fun s => s.ring.pollStation) (fun _ => rfl) fun dest => blind_tx tagPfm dest []) :)

/-! ## The evaluation, which reads `OUTQ` -/

theorem blind_evalInitialize : Blind h evalInitialize := .ite (fun _ => Iff.rfl) blind_enterIdle .same

theorem blind_sendIdleResponse : Blind h sendIdleResponse := by
  refine .of_visible (fun s => (s.ring.idleRespKind, s.ring.idleRespDest, s.ring.idleRespPayload))
    (op := fun x s => match x.1 with
      | .none => s
      | .rpfm => tx tagRpfm x.2.1 [] s
      | .testResponse => tx tagTestResponse x.2.1 x.2.2 s) (fun _ => rfl) ?_
  rintro ⟨kind, dest, p⟩
  cases kind
  exacts [.same, blind_tx _ _ _, blind_tx _ _ _]

theorem blind_evalIdle : Blind h evalIdle :=
  .ite (fun _ => Iff.rfl)
    (.ite (fun _ => Iff.rfl) (.comp blind_clearIdleResponse blind_sendIdleResponse) .same)
    (.ite (fun _ => Iff.rfl) blind_enterPollForMaster .same)

theorem blind_sendEntry (e : OutEntry) : Blind h (sendEntry e) := by
  have sent (ty : Byte) : Blind h fun s => bumpFrameCount (tx ty e.dest e.payload s) :=
    .comp blind_bumpFrameCount (blind_tx ty e.dest e.payload)
  exact .ite (fun _ => Iff.rfl) (.comp blind_enterWaitForReply (sent tagDer)) (sent tagDner)

theorem blind_setOutq (q : List OutEntry) : Blind h fun s => { s with outq := q } := fun s => by
  simp only [hide, bif_bif]

theorem blind_evalUseToken (ho : h.outq = false) : Blind h evalUseToken := by
  have done := blind_setRingState (h := h) .doneWithToken
  refine .ite (fun _ => Iff.rfl) done (.ite (fun _ => Iff.rfl) done ?_)
  refine .of_visible (fun s => qPop s.outq)
    (op := fun popped s => match popped with
      | none => setRingState .doneWithToken s
      | some (e, rest) => if turnaroundOk s then sendEntry e { s with outq := rest } else s)
    (fun s => congrArg qPop (hide_outq ho s)) ?_
  rintro (_ | ⟨e, rest⟩)
  · exact done
  · exact .ite (fun _ => Iff.rfl) (.comp (blind_sendEntry e) (blind_setOutq rest)) .same

theorem blind_evalPassToken : Blind h evalPassToken := by
  have passed : Blind h fun s => bumpTokenCount (tx tagToken s.ring.nextStation [] s) :=
    .comp blind_bumpTokenCount
      (.of_visible (fun s => s.ring.nextStation) (fun _ => rfl) fun dest => blind_tx tagToken dest [])
  exact .ite (fun _ => Iff.rfl)
    (.comp (g := fun s => if s.ring.nextStation = s.cfg.thisStation then enterUseToken s else enterIdle s)
      (.ite (fun _ => Iff.rfl) blind_enterUseToken blind_enterIdle) passed)
    .same

theorem blind_nextProbe : Blind h nextProbe :=
  .comp (g := fun s => if s.ring.pollStation = s.cfg.thisStation then promote (setPfmSent false s)
      else if turnaroundOk s then sendProbe s else setPfmSent false s)
    (.ite (fun _ => Iff.rfl) (.comp blind_promote (blind_setPfmSent false))
      (.ite (fun _ => Iff.rfl) blind_sendProbe (blind_setPfmSent false)))
    blind_advancePoll

theorem blind_evalPollForMaster : Blind h evalPollForMaster :=
  .ite (fun _ => Iff.rfl) blind_enterIdle
    (.ite (fun _ => Iff.rfl) (.ite (fun _ => Iff.rfl) blind_nextProbe .same)
      (.ite (fun _ => Iff.rfl) blind_promote
        (.ite (fun _ => Iff.rfl) (.comp (blind_setPfmSent true) blind_sendProbe) .same)))

theorem blind_sendReply : Blind h sendReply :=
  .comp (g := fun s => enterIdle { s with ring := { s.ring with replyValid := false } })
    (.of_commutes fun _ => rfl)
    (.of_visible (fun s => (s.ring.replyTo, s.ring.replyPayload)) (op := fun x s => tx tagDner x.1 x.2 s)
      (fun _ => rfl) fun x => blind_tx tagDner x.1 x.2)

theorem blind_evalAnswer : Blind h evalAnswer := by
  refine .of_visible (fun s => s.cfg.replyDelaySemantics)
    (op := fun r s => match r with
      | .maximum => evalAnswerMaximum s
      | .minimum => evalAnswerMinimum s
      | .invalid _ => s) (fun _ => rfl) ?_
  rintro (_ | _ | code)
  · exact .ite (fun _ => Iff.rfl) (.ite (fun _ => Iff.rfl) blind_sendReply .same)
      (.ite (fun _ => Iff.rfl) blind_enterIdle .same)
  · exact .ite (fun _ => Iff.rfl) (.ite (fun _ => Iff.rfl) blind_sendReply .same)
      (.ite (fun _ => Iff.rfl) blind_enterIdle .same)
  · exact .same

/-- No evaluation rule reads a counter, SOLE_MASTER, `INQ` or what the ports were returned. -/
theorem blind_evaluate (ho : h.outq = false) : Blind h evaluate := by
  refine .of_visible (fun s => s.ring.state)
    (op := fun st s => match st with
      | .init => evalInitialize s
      | .idle => evalIdle s
      | .useToken => evalUseToken s
      | .waitForReply => evalWaitForReply s
      | .doneWithToken => evalDoneWithToken s
      | .passToken => evalPassToken s
      | .noToken => evalNoToken s
      | .pollForMaster => evalPollForMaster s
      | .answerDataRequest => evalAnswer s) (fun _ => rfl) fun st => ?_
  cases st with
  | init => exact blind_evalInitialize
  | idle => exact blind_evalIdle
  | useToken => exact blind_evalUseToken ho
  | waitForReply => exact .ite (fun _ => Iff.rfl) (blind_setRingState .doneWithToken) .same
  | doneWithToken =>
    exact .ite (fun _ => Iff.rfl)
      (.comp (f := fun s => { s with ring := { s.ring with tokenCount := 0 } }) blind_enterPollForMaster
        (.of_commutes fun _ => rfl))
      (blind_setRingState .passToken)
  | passToken => exact blind_evalPassToken
  | noToken => exact .ite (fun _ => Iff.rfl) blind_enterPollForMaster .same
  | pollForMaster => exact blind_evalPollForMaster
  | answerDataRequest => exact blind_evalAnswer

/-! ## The frame handlers, which read the length of `INQ` -/

/-- A full `INQ` is seen in `INQ` and in its overflow counter only. -/
theorem blind_deliverIfGood (hc : h.Closed) (f : Received) : Blind h (deliverIfGood f) := by
  cases hi : h.inq with
  | true =>
    obtain ⟨hcnt, -⟩ := hc (.inl hi)
    refine .of_invisible fun s => ?_
    rcases deliverIfGood_cases f s with ⟨-, he⟩ | ⟨-, -, -, he⟩ | ⟨-, -, -, he⟩ <;> rw [he]
    · simp only [hide, count, hcnt, cond_true]
    · simp only [hide, hi, cond_true]
  | false =>
    have push : Blind h fun s => { s with inq := qPush s.inq { payload := f.payload, src := f.src } } :=
      .of_commutes fun s => by simp only [hide, hi, cond_false]
    refine .ite (p := fun _ => good f = true) (fun _ => Iff.rfl) (.ite (fun s => ?_) (blind_count .inqOverflow) push) .same
    rw [hide_inq hi]
    rfl

theorem blind_waitForReplyFrame (hc : h.Closed) (tag : Byte) (f : Received) : Blind h (waitForReplyFrame tag f) := by
  have rejected : Blind h wfrReject := (Blind.comp blind_enterIdle (blind_count .anomaly) :)
  have accepted : Blind h (wfrAccept f) := (Blind.comp (blind_setRingState .doneWithToken) (blind_deliverIfGood hc f) :)
  intro s
  by_cases ht : tag ∈ rejectSet
  · simp only [waitForReplyFrame, if_pos ht]
    exact rejected s
  · simp only [waitForReplyFrame, if_neg ht]
    exact accepted s

theorem blind_frameInState (hc : h.Closed) (tag : Byte) (f : Received) {inIdle inPoll : State → State}
    (hi : Blind h inIdle) (hp : Blind h inPoll) : Blind h (frameInState tag f inIdle inPoll) := by
  refine .of_visible (fun s => s.ring.state)
    (op := fun st s => match st with
      | .waitForReply => waitForReplyFrame tag f s
      | .idle => inIdle s
      | .pollForMaster => inPoll s
      | .init => s
      | .useToken => s
      | .doneWithToken => s
      | .passToken => s
      | .noToken => s
      | .answerDataRequest => s) (fun _ => rfl) fun st => ?_
  cases st with
  | waitForReply => exact blind_waitForReplyFrame hc tag f
  | idle => exact hi
  | pollForMaster => exact hp
  | _ => exact .same

theorem blind_ignore : Blind h ignore := .same

/-- An action on frames to this station. -/
theorem blind_toMe (f : Received) {act : State → State} (hact : Blind h act) :
    Blind h fun s => if toMe f s then act s else s :=
  .ite (fun _ => Iff.rfl) hact .same

section Handlers

variable (hc : h.Closed) (f : Received)
include hc

theorem blind_onToken : Blind h (onToken f) := blind_frameInState hc _ f (blind_toMe f blind_enterUseToken) blind_ignore

theorem blind_onPfm : Blind h (onPfm f) := blind_frameInState hc _ f (blind_toMe f (blind_owe _ _ _)) blind_ignore

theorem blind_onRpfm : Blind h (onRpfm f) :=
  blind_frameInState hc _ f blind_ignore (blind_toMe f (blind_acceptPollReply f))

theorem blind_onTestRequest : Blind h (onTestRequest f) :=
  blind_frameInState hc _ f (blind_toMe f (blind_owe _ _ _)) blind_ignore

theorem blind_onDer : Blind h (onDer f) :=
  blind_frameInState hc _ f
    (.ite (fun _ => Iff.rfl) (.comp (blind_enterAnswer f.src) (blind_deliverIfGood hc f))
      (.ite (p := fun _ => f.dest = broadcast) (fun _ => Iff.rfl) (blind_deliverIfGood hc f) .same))
    blind_ignore

theorem blind_onDner : Blind h (onDner f) :=
  blind_frameInState hc _ f (.ite (fun _ => Iff.rfl) (blind_deliverIfGood hc f) .same) blind_ignore

/-- A frame without rules of its own. -/
theorem blind_ignored (tag : Byte) : Blind h (frameInState tag f ignore ignore) :=
  blind_frameInState hc tag f blind_ignore blind_ignore

end Handlers

theorem blind_frameHandler (hc : h.Closed) (f : RxFrame) : Blind h (frameHandler f) := by
  unfold frameHandler
  cases FrameType.ofTag f.tag with
  | token => exact blind_onToken hc f.body
  | pfm => exact blind_onPfm hc f.body
  | rpfm => exact blind_onRpfm hc f.body
  | testRequest => exact blind_onTestRequest hc f.body
  | testResponse => exact blind_ignored hc f.body tagTestResponse
  | der => exact blind_onDer hc f.body
  | dner => exact blind_onDner hc f.body
  | unrecognized tag | vendor tag => exact blind_ignored hc f.body tag

/-! ## The events -/

theorem blind_abortCheck : Blind h abortCheck := by
  have discarded : Blind h fun s => count .frameAbort (rxToHunt s) := .comp (blind_count .frameAbort) blind_rxToHunt
  have aborted : Blind h fun s => abortReply (count .frameAbort (rxToHunt s)) :=
    .comp (.ite (fun _ => Iff.rfl) (blind_setRingState .doneWithToken) .same) discarded
  refine .ite (fun _ => Iff.rfl) (.of_visible (fun s => s.rx.state)
    (op := fun st s => match st with
      | .hunt => s
      | .preamble => rxToHunt s
      | .header => abortReply (count .frameAbort (rxToHunt s))
      | .data => abortReply (count .frameAbort (rxToHunt s))) (fun _ => rfl) fun st => ?_) .same
  cases st
  exacts [.same, blind_rxToHunt, aborted, aborted]

/-- The receiver reads and writes its own registers, and its errors are counted. -/
theorem blind_octetAction (hc : h.Closed) (b : Byte) : Blind h fun s => (octetAction b s).state := by
  have consumed (r : ScanResult) : Blind h (consume r) := by
    refine .comp (f := fun s => { s with rx := r.rx }) ?_ (.of_commutes fun _ => rfl)
    cases r.counted with
    | none => exact .same
    | some k => exact blind_count k
  have dispatched (f : Option RxFrame) : Blind h (dispatchFrame f) := by
    cases f with
    | none => exact .same
    | some f => exact (Blind.comp (blind_frameHandler hc f) (blind_count .framesRx) :)
  have rearmed (st : RingState) : Blind h (rearmSilence st) :=
    .ite (p := fun _ => listening st = true) (fun _ => Iff.rfl) (blind_arm .noToken) .same
  exact .of_visible (fun s => (scan s.build.maxPayload s.rx b, s.ring.state))
    (op := fun x s => dispatchFrame x.1.frame (rearmSilence x.2 (stampRxLast (consume x.1 s)))) (fun _ => rfl)
    fun x => .comp (dispatched x.1.frame) (.comp (rearmed x.2) (.comp blind_stampRxLast (consumed x.1)))

/-- A full `OUTQ` is seen in `OUTQ` and in its count of rejects only. -/
theorem blind_enqueueAction (hc : h.Closed) (p : Octets) (d : Addr) (er : Bool) :
    Blind h fun s => (enqueueAction p d er s).state := by
  intro s
  simp only [enqueueAction_eq]
  cases ho : h.outq with
  | true =>
    obtain ⟨hcnt, -⟩ := hc (.inr ho)
    simp only [hide, ho, hcnt, bif_bif, cond_true]
  | false =>
    cases hcnt : h.cnt <;> simp only [hide, ho, hcnt, bif_bif, cond_true, cond_false]

theorem blind_dequeueAction : Blind h fun s => (dequeueAction s).state := by
  intro s
  simp only [dequeueAction_eq]
  cases hi : h.inq <;> simp only [hide, setInq, hi, bif_bif, cond_true, cond_false]

theorem blind_answerAction (p : Octets) : Blind h fun s => (answerAction p s).state := by
  intro s
  have expected : answerExpected (hide h s) = answerExpected s := rfl
  have held : Blind h fun s => { s with ring := { s.ring with replyPayload := p, replyValid := true } } :=
    .of_commutes fun _ => rfl
  by_cases he : answerExpected s = true
  · by_cases hp : p.length ≤ s.build.maxPayload
    · simp only [answerAction_holds (s := s) he hp, answerAction_holds (s := hide h s) (expected.trans he) hp]
      exact held s
    · simp only [answerAction_tooLong (s := s) he hp, answerAction_tooLong (s := hide h s) (expected.trans he) hp]
      exact Blind.same s
  · simp only [answerAction_notExpected (s := s) he, answerAction_notExpected (s := hide h s) he]
    exact Blind.same s

theorem blind_noAnswerAction : Blind h fun s => (noAnswerAction s).state := by
  intro s
  by_cases he : answerExpected s = true
  · have hh : answerExpected (hide h s) = true := he
    simp only [noAnswerAction, if_pos he, if_pos hh]
    exact blind_enterIdle s
  · have hh : ¬ answerExpected (hide h s) = true := he
    simp only [noAnswerAction, if_neg he, if_neg hh]
    exact Blind.same s

theorem blind_actionOf (hc : h.Closed) (i : Instr) : Blind h fun s => (actionOf i s).state := by
  cases i with
  | octet t b => exact blind_octetAction hc b
  | enqueue t p d er => exact blind_enqueueAction hc p d er
  | dequeue t => exact blind_dequeueAction
  | answer t p => exact blind_answerAction p
  | noAnswer t => exact blind_noAnswerAction
  | _ => exact .same

theorem blind_acted (hc : h.Closed) (i : Instr) : Blind h (acted i) :=
  (Blind.comp (blind_actionOf hc i) blind_abortCheck :)

/-- No answer depends on a hidden register while the queues are visible. -/
theorem actionOf_answer (hi : h.inq = false) (ho : h.outq = false) (i : Instr) (s : State) :
    (actionOf i (hide h s)).result = (actionOf i s).result ∧ (actionOf i (hide h s)).entry = (actionOf i s).entry := by
  cases i with
  | enqueue t p d er => rw [actionOf, enqueueAction_eq, enqueueAction_eq, hide_outq ho]; exact ⟨rfl, rfl⟩
  | dequeue t => rw [actionOf, dequeueAction_eq, dequeueAction_eq, hide_inq hi]; exact ⟨rfl, rfl⟩
  | answer t p =>
    simp only [actionOf, answerAction, apply_ite Acted.result, apply_ite Acted.entry]
    exact ⟨rfl, rfl⟩
  | noAnswer t =>
    simp only [actionOf, noAnswerAction, apply_ite Acted.result, apply_ite Acted.entry]
    exact ⟨rfl, rfl⟩
  | _ => exact ⟨rfl, rfl⟩

/-- States that agree are answered alike, or the answers are hidden. -/
theorem hide_respond {s u : State} (hsu : hide h s = hide h u) (port : Port) {r r' : Result} {e e' : Option InEntry}
    (hr : h.responses = false → r = r' ∧ e = e') : hide h (respond port r e s) = hide h (respond port r' e' u) := by
  cases hresp : h.responses with
  | false =>
    obtain ⟨rfl, rfl⟩ := hr hresp
    have commutes : Blind h (respond port r e) := .of_commutes fun s => by
      simp only [hide, respond, hresp, cond_false]
    exact commutes.agree hsu
  | true =>
    have invisible (r : Result) (e : Option InEntry) (s : State) : hide h (respond port r e s) = hide h s := by
      simp only [hide, respond, hresp, cond_true]
    rw [invisible, invisible, hsu]

/-- The same, of states that agree. -/
theorem actionOf_answer_agree (hi : h.inq = false) (ho : h.outq = false) (i : Instr) {s u : State}
    (hsu : hide h s = hide h u) :
    (actionOf i s).result = (actionOf i u).result ∧ (actionOf i s).entry = (actionOf i u).entry := by
  obtain ⟨hr, he⟩ := actionOf_answer hi ho i s
  obtain ⟨hr', he'⟩ := actionOf_answer hi ho i u
  rw [← hr, ← he, hsu]
  exact ⟨hr', he'⟩

section Steps

variable (hc : h.Closed) (ho : h.outq = false)
include hc ho

theorem blind_phases (port : Port) (i : Instr) : Blind h (phases port (actionOf i)) := by
  have evaluated : Blind h fun s => evaluateIfSame s.ring.state (acted i s) :=
    .of_visible (fun s => s.ring.state) (op := fun st s => evaluateIfSame st (acted i s)) (fun _ => rfl) fun st =>
      .comp (g := evaluateIfSame st) (.ite (p := fun s => s.ring.state = st) (fun _ => Iff.rfl) (blind_evaluate ho) .same)
        (blind_acted hc i)
  intro s
  rw [phases_eq, phases_eq]
  refine hide_respond (evaluated s) port fun hresp => ?_
  have hi : h.inq = false := Bool.eq_false_iff.mpr fun hi => by simp [(hc (.inl hi)).2] at hresp
  exact actionOf_answer_agree hi ho i (blind_abortCheck s)

theorem blind_eventStep (port : Port) (t : Time) (i : Instr) : Blind h (eventStep port t (actionOf i)) := by
  have refused (r : Result) : Blind h (respond port r none) := fun s => hide_respond (hide_hide s) port fun _ => ⟨rfl, rfl⟩
  exact .ite (fun _ => Iff.rfl)
    (.ite (fun _ => Iff.rfl) (refused .timeRegression) (.comp (blind_phases hc ho port i) (blind_setNow t)))
    (refused .notConfigured)

end Steps

/-- RESET overwrites the hidden registers, or leaves them (R450). -/
theorem blind_resetStep (t : Time) (cfg : Cfg) : Blind h (resetStep t cfg) := by
  have answered (r : Result) : Blind h (respond .control r none) := fun s =>
    hide_respond (hide_hide s) .control fun _ => ⟨rfl, rfl⟩
  have registers : Blind h (resetRegisters t cfg) := fun s => by simp only [hide, resetRegisters, bif_bif]
  have initialized : Blind h enterInitialize := .of_commutes fun _ => rfl
  exact .ite (p := fun _ => validCfg cfg = true) (fun _ => Iff.rfl) (.comp (answered .ok) (.comp initialized registers))
    (.comp (f := fun s => { s with cfgValid := false }) (answered .configInvalid) (.of_commutes fun _ => rfl))

/-- A frame and a RESET read no hidden register, not even a hidden `OUTQ`. -/
theorem blind_effect_of_not_event (hc : h.Closed) {i : Instr} (hi : admissible i = none) : Blind h (effect i) := by
  cases i with
  | token f => exact blind_onToken hc f
  | pfm f => exact blind_onPfm hc f
  | rpfm f => exact blind_onRpfm hc f
  | testRequest f => exact blind_onTestRequest hc f
  | testResponse f => exact blind_ignored hc f tagTestResponse
  | der f => exact blind_onDer hc f
  | dner f => exact blind_onDner hc f
  | unrecognized tag f | vendor tag f => exact blind_ignored hc f tag
  | reset t cfg => exact blind_resetStep t cfg
  | _ => cases hi

theorem effect_event {i : Instr} {port : Port} {t : Time} (hi : admissible i = some (port, t)) :
    effect i = eventStep port t (actionOf i) := by
  funext s
  exact Host.Outcome.next.inj ((exec_eq_effect i s).symm.trans (exec_event i port t s hi))

/-- No instruction's next state depends, in the visible registers, on the hidden ones. -/
theorem blind_effect (hc : h.Closed) (ho : h.outq = false) (i : Instr) : Blind h (effect i) := by
  cases hi : admissible i with
  | none => exact blind_effect_of_not_event hc hi
  | some event =>
    rw [effect_event (port := event.1) (t := event.2) hi]
    exact blind_eventStep hc ho event.1 event.2 i

/-! ## What `INQ` holds after an instruction -/

/-- An event's own action alone decides it, if the event is admitted. -/
theorem eventStep_inq (port : Port) (t : Time) (i : Instr) (s : State) :
    (eventStep port t (actionOf i) s).inq =
      if s.cfgValid = true ∧ s.timing.now ≤ t then (acted i (setNow t s)).inq else s.inq := by
  cases hv : s.cfgValid with
  | false => rw [eventStep_notConfigured port t _ s hv, if_neg (by simp)]; rfl
  | true =>
    by_cases ht : s.timing.now ≤ t
    · rw [eventStep_admitted port t _ s hv ht, if_pos ⟨rfl, ht⟩, phases_inq]
    · rw [eventStep_timeRegression port t _ s hv (BitVec.not_le.mp ht), if_neg fun h => ht h.2]; rfl

end Blindness

/-! ## The obligations -/

def hideCounters : Hidden := { cnt := true, soleMaster := false, inq := false, outq := false, responses := false }

def hideSoleMaster : Hidden := { cnt := false, soleMaster := true, inq := false, outq := false, responses := false }

/-- `INQ`, and what its length decides. -/
def hideInq : Hidden := { cnt := true, soleMaster := false, inq := true, outq := false, responses := true }

/-- `OUTQ`, and what its length decides. -/
def hideOutq : Hidden := { cnt := true, soleMaster := false, inq := false, outq := true, responses := true }

theorem Hidden.closed_of_visible {h : Hidden} (hi : h.inq = false) (ho : h.outq = false) : h.Closed := by
  rintro (h | h)
  · simp [hi] at h
  · simp [ho] at h

/-- Settles O57: no instruction reads a hidden counter. -/
theorem countersInfluenceNothing : Obligations.CountersInfluenceNothing := by
  intro i s cnt
  refine ⟨_, _, exec_eq_effect i s, exec_eq_effect i { s with cnt := cnt }, ?_⟩
  have same : hide hideCounters (effect i s) = hide hideCounters (effect i { s with cnt := cnt }) :=
    (blind_effect (Hidden.closed_of_visible rfl rfl) rfl i).agree rfl
  exact congrArg (fun u : State => { u with cnt := (effect i { s with cnt := cnt }).cnt }) same

/-- Settles O58: SOLE_MASTER is written and never read. -/
theorem soleMasterInfluencesNothing : Obligations.SoleMasterInfluencesNothing := by
  intro i s v
  refine ⟨_, _, exec_eq_effect i s, exec_eq_effect i { s with ring := { s.ring with soleMaster := v } }, ?_⟩
  have same : hide hideSoleMaster (effect i s) =
      hide hideSoleMaster (effect i { s with ring := { s.ring with soleMaster := v } }) :=
    (blind_effect (Hidden.closed_of_visible rfl rfl) rfl i).agree rfl
  exact congrArg (fun u : State => { u with ring := { u.ring with
    soleMaster := (effect i { s with ring := { s.ring with soleMaster := v } }).ring.soleMaster } }) same

/-- Settles O56: with `INQ` hidden the whole step is blind; `OUTQ` is read by the evaluation, which leaves `INQ` alone. -/
theorem queuesAreIndependent : Obligations.QueuesAreIndependent := by
  intro i s inq outq
  refine ⟨_, _, _, exec_eq_effect i s, exec_eq_effect i _, exec_eq_effect i _, ?_, ?_⟩
  · have same : hide hideInq (effect i { s with inq := inq }) = hide hideInq (effect i s) :=
      (blind_effect (fun _ => ⟨rfl, rfl⟩) rfl i).agree rfl
    exact (congrArg State.outq same :)
  · have same {op : State → State} (hop : Blind hideOutq op) : (op { s with outq := outq }).inq = (op s).inq :=
      (congrArg State.inq (hop.agree (s := { s with outq := outq }) (u := s) rfl) :)
    cases hi : admissible i with
    | none => exact same (blind_effect_of_not_event (fun _ => ⟨rfl, rfl⟩) hi)
    | some event =>
      rw [effect_event (port := event.1) (t := event.2) hi, eventStep_inq, eventStep_inq]
      rw [same (.comp (blind_acted (fun _ => ⟨rfl, rfl⟩) i) (blind_setNow event.2))]

end Sys2Proof.Machine
end

section
/-! PROOF. The receiver reads back what the encoder sends, octet by octet (O32), and a data frame so received in IDLE
reaches `INQ` (O33). -/

namespace Sys2Proof.Machine

/-! ## A run of octets that completes nothing, at the receiver -/

/-- Octets that take the receiver from one set of registers to another, each scan quiet. -/
inductive ScansTo (m : Nat) : Rx → Octets → Rx → Prop
  | nil (rx : Rx) : ScansTo m rx [] rx
  | cons {rx rx1 rx2 : Rx} {b : Byte} {bs : Octets} (first : scan m rx b = .quiet rx1) (rest : ScansTo m rx1 bs rx2) :
      ScansTo m rx (b :: bs) rx2

theorem ScansTo.append {m : Nat} {rx rx1 rx2 : Rx} {a b : Octets} (ha : ScansTo m rx a rx1) (hb : ScansTo m rx1 b rx2) :
    ScansTo m rx (a ++ b) rx2 := by
  induction ha with
  | nil => exact hb
  | cons first _ ih => exact .cons first (ih hb)

theorem ScansTo.single {m : Nat} {rx rx1 : Rx} {b : Byte} (h : scan m rx b = .quiet rx1) : ScansTo m rx [b] rx1 :=
  .cons h (.nil rx1)

/-- The header registers after the five covered octets, with the checksum octet still to come. -/
def sentHeader (ty dest src : Byte) (len : BitVec 16) (crc : Byte) : RxHeader :=
  { type := ty, dest := dest, src := src, lenHi := hiByte len, lenLo := loByte len, crc := crc }

/-- The registers after the synchronization pattern and the five covered octets of a header. -/
def headerCollected (rx : Rx) (ty dest src : Byte) (len : BitVec 16) : Rx :=
  { rx with
    state := .header, index := 5, hdr := sentHeader ty dest src len rx.hdr.crc
    hcrc := crc8Run crc8Init (headerOctets ty dest src len) }

theorem scansTo_headerCollected {m : Nat} {rx : Rx} (hs : rx.state = .hunt) (ty dest src : Byte) (len : BitVec 16) :
    ScansTo m rx [sync1, sync2, ty, dest, src, hiByte len, loByte len] (headerCollected rx ty dest src len) := by
  have first : scan m rx sync1 = .quiet { rx with state := .preamble } := by rw [scan_hunt hs, if_pos rfl]
  have second : scan m { rx with state := .preamble } sync2 =
      .quiet { rx with state := .header, index := 0, hcrc := crc8Init } := by rw [scan_preamble rfl, if_pos rfl]
  have covered {rx : Rx} (i : BitVec 32) (hi : i.toNat < 5) (hrx : rx.state = .header ∧ rx.index = i) (b : Byte) :
      scan m rx b = .quiet { rx with
        hdr := rx.hdr.set i.toNat b, hcrc := crc8Step b rx.hcrc, index := i + 1 } := by
    obtain ⟨hst, rfl⟩ := hrx
    exact scan_header_covered hst hi
  exact .cons first (.cons second (.cons (covered 0 (by decide) ⟨rfl, rfl⟩ ty) (.cons (covered 1 (by decide) ⟨rfl, rfl⟩ dest)
    (.cons (covered 2 (by decide) ⟨rfl, rfl⟩ src) (.cons (covered 3 (by decide) ⟨rfl, rfl⟩ (hiByte len))
      (.cons (covered 4 (by decide) ⟨rfl, rfl⟩ (loByte len)) (.nil _)))))))

/-- The registers when a kept payload is about to follow. -/
def payloadOpened (rx : Rx) (ty dest src : Byte) (len : BitVec 16) : Rx :=
  { headerCollected rx ty dest src len with
    hdr := sentHeader ty dest src len (headerCRC ty dest src len)
    len := len, state := .data, index := 0, dcrc := crc16Init, keep := true, buf := [] }

theorem scan_headerCRC {m : Nat} (rx : Rx) (ty dest src : Byte) (len : BitVec 16) :
    scan m (headerCollected rx ty dest src len) (headerCRC ty dest src len) =
      scanHeaderGood m { headerCollected rx ty dest src len with
        hdr := sentHeader ty dest src len (headerCRC ty dest src len) } :=
  scan_header_match rfl rfl rfl

theorem scan_headerCRC_opens {m : Nat} (rx : Rx) (ty dest src : Byte) {len : BitVec 16} (hl : len ≠ 0)
    (hm : len.toNat ≤ m) :
    scan m (headerCollected rx ty dest src len) (headerCRC ty dest src len) =
      .quiet (payloadOpened rx ty dest src len) := by
  have stated : joinBE16 (hiByte len) (loByte len) = len := joinBE16_split len
  rw [scan_headerCRC, scanHeaderGood_data (by rw [Rx.headerLen, sentHeader, stated]; exact hl)]
  simp only [Rx.headerLen, sentHeader, stated, decide_eq_true hm, payloadOpened]

/-- The registers after payload octets that are kept. -/
def payloadStored (rx : Rx) (p : Octets) : Rx :=
  { rx with index := rx.index + BitVec.ofNat 32 p.length, buf := rx.buf ++ p, dcrc := crc16Run rx.dcrc p }

theorem payloadStored_nil (rx : Rx) : payloadStored rx [] = rx := by
  simp only [payloadStored, List.length_nil, List.append_nil, BitVec.add_zero, crc16Run, List.foldl_nil]

theorem payloadStored_cons (rx : Rx) (b : Byte) (p : Octets) :
    payloadStored { rx with index := rx.index + 1, dcrc := crc16Step b rx.dcrc, buf := rx.buf ++ [b] } p =
      payloadStored rx (b :: p) := by
  have counted : rx.index + 1 + BitVec.ofNat 32 p.length = rx.index + BitVec.ofNat 32 (p.length + 1) := by
    rw [BitVec.add_assoc, Nat.add_comm, BitVec.ofNat_add]
    rfl
  simp only [payloadStored, counted, List.append_assoc, List.singleton_append, List.length_cons]
  rfl

/-- The octets of a payload are stored and summed (R198). -/
theorem scansTo_payload {m : Nat} (p : Octets) {rx : Rx} (hs : rx.state = .data) (hk : rx.keep = true)
    (hi : rx.index.toNat + p.length ≤ rx.len.toNat) : ScansTo m rx p (payloadStored rx p) := by
  induction p generalizing rx with
  | nil => exact (payloadStored_nil rx).symm ▸ .nil rx
  | cons b p ih =>
    rw [List.length_cons] at hi
    have first := scan_data_payload (m := m) (b := b) hs (by omega)
    rw [hk, if_pos rfl] at first
    have counted : (rx.index + 1).toNat = rx.index.toNat + 1 := index_succ_toNat (by omega)
    have rest := ih (rx := { rx with index := rx.index + 1, dcrc := crc16Step b rx.dcrc, buf := rx.buf ++ [b] }) hs hk
      (by simp only [counted]; omega)
    rw [payloadStored_cons] at rest
    exact .cons (by rw [first, ← hk]) rest

/-- The frame the receiver is to complete. -/
def sentFrame (ty dest src : Byte) (p : Octets) : RxFrame :=
  { tag := ty, body :=
    { dest := dest, src := src, len := BitVec.ofNat 16 p.length, payload := p, payloadOk := true } }

/-- The two checksum octets that follow a kept payload: the first is held, the second completes the frame intact
(R199). -/
theorem scan_payloadCRC {m : Nat} {rx : Rx} {p : Octets} (hs : rx.state = .data) (hk : rx.keep = true)
    (hi : rx.index.toNat = rx.len.toNat) (hbuf : rx.buf = p) (hcrc : ~~~ rx.dcrc = payloadCRC p) :
    ∃ rx1, scan m rx (loByte (payloadCRC p)) = .quiet rx1 ∧
      (scan m rx1 (hiByte (payloadCRC p))).counted = none ∧
      (scan m rx1 (hiByte (payloadCRC p))).frame = some { tag := rx.hdr.type, body :=
        { dest := rx.hdr.dest, src := rx.hdr.src, len := rx.len, payload := p, payloadOk := true } } := by
  have counted : (rx.index + 1).toNat = rx.len.toNat + 1 := by rw [index_succ_toNat (by omega), hi]
  refine ⟨_, scan_data_crcLo hs hi, ?_⟩
  rw [scan_data_crcHi (rx := { rx with index := rx.index + 1, crcLo := loByte (payloadCRC p) }) hs counted]
  simp [complete, hk, hbuf, hcrc]

/-- A hunting receiver is quiet on all octets of an encoded frame but the last, which completes the frame (R162). -/
theorem encodeFrame_scans {m : Nat} {rx : Rx} (hs : rx.state = .hunt) (ty dest src : Byte) {p : Octets}
    (hp : p.length ≤ m) (hm : m ≤ 65535) :
    ∃ opening last rx1, encodeFrame ty dest src p = opening ++ [last] ∧ ScansTo m rx opening rx1 ∧
      (scan m rx1 last).counted = none ∧ (scan m rx1 last).frame = some (sentFrame ty dest src p) := by
  have collected := scansTo_headerCollected (m := m) hs ty dest src (BitVec.ofNat 16 p.length)
  have stated : (BitVec.ofNat 16 p.length).toNat = p.length := by
    rw [BitVec.toNat_ofNat, Nat.mod_eq_of_lt (by omega)]
  rw [encodeFrame_eq_fixedHeader_append, payloadPart]
  by_cases h0 : p.length = 0
  · obtain rfl : p = [] := List.length_eq_zero_iff.mp h0
    have completed := (scan_headerCRC (m := m) rx ty dest src 0).trans (scanHeaderGood_empty (joinBE16_split 0))
    exact ⟨_, headerCRC ty dest src 0, _, rfl, collected, congrArg ScanResult.counted completed,
      congrArg ScanResult.frame completed⟩
  · have hl : BitVec.ofNat 16 p.length ≠ 0 := fun h => h0 (stated.symm.trans (congrArg BitVec.toNat h))
    have opened := ScansTo.single (scan_headerCRC_opens (m := m) rx ty dest src hl (stated.trans_le hp))
    have stored := scansTo_payload (m := m) p (rx := payloadOpened rx ty dest src (BitVec.ofNat 16 p.length)) rfl rfl
      (by simp [payloadOpened, Nat.mod_eq_of_lt (show p.length < 65536 by omega)])
    obtain ⟨rx1, lo, hi⟩ := scan_payloadCRC (m := m) (p := p)
      (rx := payloadStored (payloadOpened rx ty dest src (BitVec.ofNat 16 p.length)) p) rfl rfl
      (by simp [payloadStored, payloadOpened]; omega) rfl rfl
    refine ⟨_, _, rx1, ?_, ((collected.append opened).append stored).append (.single lo), hi⟩
    rw [if_neg h0]
    simp [fixedHeader]

/-! ## A run of octets that completes nothing, at the block -/

/-- A station in IDLE whose intervals are at least 1, so that no rule fires in the microsecond of an octet. -/
structure Listens (s : State) : Prop where
  idle : s.ring.state = .idle
  turnaround : 1 ≤ s.tTurnaround.toNat
  noToken : 1 ≤ s.cfg.tNoToken.toNat

theorem evaluate_listens {s : State} (h : Listens s) (hl : s.timing.rxLast = s.timing.now)
    (hn : s.timing.tsNoToken = s.timing.now) : evaluate s = s := by
  have hturn := h.turnaround
  have htoken := h.noToken
  by_cases ho : s.ring.idleRespKind = .none
  · refine evaluate_idle_holds h.idle ho ?_
    rw [hn]
    bv_omega
  · refine evaluate_idle_owing_holds h.idle ho ?_
    rw [hl]
    bv_omega

/-- What octets that complete no frame, and leave the receiver with the registers `rx`, make of `s`. -/
structure Heard (rx : Rx) (s s' : State) : Prop where
  kept : EventKeeps s s'
  rx : s'.rx = rx
  cnt : { s'.cnt with framesTx := s.cnt.framesTx } = s.cnt
  inq : s'.inq = s.inq
  listens : Listens s → s'.ring = s.ring ∧ s'.lineTx = s.lineTx ∧ s'.outq = s.outq

theorem Heard.refl (s : State) : Heard s.rx s s :=
  ⟨⟨rfl, rfl, rfl, rfl, rfl, rfl⟩, rfl, rfl, rfl, fun _ => ⟨rfl, rfl, rfl⟩⟩

theorem Listens.of_kept {s s' : State} (h : Listens s) (hk : EventKeeps s s') (hr : s'.ring = s.ring) : Listens s' :=
  ⟨by rw [hr]; exact h.idle, by rw [hk.tTurnaround]; exact h.turnaround, by rw [hk.cfg]; exact h.noToken⟩

theorem Heard.trans {rx1 rx2 : Rx} {s s1 s2 : State} (h1 : Heard rx1 s s1) (h2 : Heard rx2 s1 s2) : Heard rx2 s s2 where
  kept := h1.kept.trans h2.kept
  rx := h2.rx
  cnt := by
    have hcnt := h1.cnt
    rw [← h2.cnt] at hcnt
    exact hcnt
  inq := h2.inq.trans h1.inq
  listens hl := by
    obtain ⟨hring, hline, houtq⟩ := h1.listens hl
    obtain ⟨hring2, hline2, houtq2⟩ := h2.listens (hl.of_kept h1.kept hring)
    exact ⟨hring2.trans hring, hline2.trans hline, houtq2.trans houtq⟩

/-- In IDLE an octet that completes no frame touches neither the ring registers nor the line nor `OUTQ`. -/
theorem octet_listens {s : State} {t : Time} {b : Byte} {rx : Rx} (hl : Listens s) (hq : Quiet t s)
    (h : scan s.build.maxPayload s.rx b = .quiet rx) :
    (eventStep .lineRx t (octetAction b) s).ring = s.ring ∧ (eventStep .lineRx t (octetAction b) s).lineTx = s.lineTx ∧
      (eventStep .lineRx t (octetAction b) s).outq = s.outq := by
  have listening : listening s.ring.state = true := by rw [hl.idle]; rfl
  have stepped := event_evaluates (i := .octet t b) rfl hq (octetAction_quiet h) rfl
    (evaluate_listens ⟨hl.idle, hl.turnaround, hl.noToken⟩ rfl (if_pos listening))
  have reached : eventStep .lineRx t (octetAction b) s = _ := Host.Outcome.next.inj stepped
  rw [reached]
  exact ⟨rfl, rfl, rfl⟩

theorem octet_heard {s : State} {t : Time} {b : Byte} {rx : Rx} (hq : Quiet t s)
    (h : scan s.build.maxPayload s.rx b = .quiet rx) : Heard rx s (eventStep .lineRx t (octetAction b) s) := by
  obtain ⟨hrx, hcnt, hinq⟩ := (octet_done hq h).quiet
  exact ⟨eventStep_event .lineRx t (.octet t b) s, hrx, hcnt, hinq, fun hl => octet_listens hl hq h⟩

theorem PromptOctets.now_le_head {now abort : Time} {events : List (Time × Byte)} (h : PromptOctets now abort events) :
    ∀ next ∈ events.head?, now ≤ next.1 := by
  intro next hn
  cases events with
  | nil => cases hn
  | cons e events => cases hn; exact h.1

/-- Octets that come promptly find nothing to abort, and those that complete nothing add up (R162). -/
theorem run_heard {m : Nat} {rx : Rx} {events : List (Time × Byte)} {last : Time × Byte} {s : State}
    (hscans : ScansTo m s.rx (events.map Prod.snd) rx) (hm : s.build.maxPayload = m)
    (hquiet : ∀ next ∈ (events ++ [last]).head?, Quiet next.1 s)
    (hprompt : PromptOctets s.timing.now s.tFrameAbort (events ++ [last])) :
    ∃ s1, execAll (octetInstrs events) s = .next s1 ∧ Heard rx s s1 ∧ Quiet last.1 s1 := by
  induction events generalizing s with
  | nil =>
    cases hscans
    exact ⟨s, rfl, .refl s, hquiet last rfl⟩
  | cons e events ih =>
    obtain ⟨t, b⟩ := e
    obtain ⟨-, hnext, hrest⟩ := hprompt
    have hq : Quiet t s := hquiet _ rfl
    cases hscans with
    | cons first rest =>
      subst hm
      have heard := octet_heard hq first
      have done := octet_done hq first
      have next_quiet : ∀ next ∈ (events ++ [last]).head?, Quiet next.1 (eventStep .lineRx t (octetAction b) s) := by
        intro next hn
        have later : t ≤ next.1 := hrest.now_le_head next hn
        have close : next.1.toNat < t.toNat + s.tFrameAbort.toNat := hnext next hn
        refine ⟨heard.kept.cfgValid.trans hq.1, done.now.trans_le later, .inr ?_⟩
        rw [heard.kept.tFrameAbort, done.rxLast]
        bv_omega
      obtain ⟨s1, hrun, hheard, hlast⟩ := ih (heard.rx.symm ▸ rest) (congrArg BuildParams.maxPayload heard.kept.build) next_quiet
        (by rw [done.now, heard.kept.tFrameAbort]; exact hrest)
      exact ⟨s1, hrun, heard.trans hheard, hlast⟩

/-- The octets of an encoded frame, but for the last, complete nothing, and the last completes the frame (R162). -/
theorem encodeFrame_heard {s : State} {ty dest src : Byte} {p : Octets} {events : List (Time × Byte)} {last : Time × Byte}
    (hv : s.cfgValid = true) (hs : s.rx.state = .hunt) (hp : p.length ≤ s.build.maxPayload)
    (hm : s.build.maxPayload ≤ 65535) (hwire : events.map Prod.snd ++ [last.2] = encodeFrame ty dest src p)
    (hprompt : PromptOctets s.timing.now s.tFrameAbort (events ++ [last])) :
    ∃ s1 rx, execAll (octetInstrs events) s = .next s1 ∧ Heard rx s s1 ∧ Quiet last.1 s1 ∧
      (scan s1.build.maxPayload s1.rx last.2).counted = none ∧
      (scan s1.build.maxPayload s1.rx last.2).frame = some (sentFrame ty dest src p) := by
  obtain ⟨opening, final, rx, hsplit, hscans, hcounted, hframe⟩ := encodeFrame_scans hs ty dest src hp hm
  obtain ⟨rfl, hfinal⟩ := List.append_inj' (hwire.trans hsplit) rfl
  obtain rfl : last.2 = final := List.head_eq_of_cons_eq hfinal
  have arrives : ∀ next ∈ (events ++ [last]).head?, Quiet next.1 s :=
    fun next hn => ⟨hv, hprompt.now_le_head next hn, .inl hs⟩
  obtain ⟨s1, hrun, heard, hquiet⟩ := run_heard hscans rfl arrives hprompt
  refine ⟨s1, rx, hrun, heard, hquiet, ?_⟩
  rw [heard.kept.build, heard.rx]
  exact ⟨hcounted, hframe⟩

/-! ## The obligations -/

/-- Settles O32: the step that completes the frame counts it and leaves the receiver hunting. -/
theorem receiverDecodesWhatTheEncoderSends : Obligations.ReceiverDecodesWhatTheEncoderSends := by
  intro s ty dest src p events last hv hs hp hm hwire hprompt
  obtain ⟨s1, rx, hrun, heard, hquiet, hcounted, hframe⟩ := encodeFrame_heard hv hs hp hm hwire hprompt
  have framesRx : s1.cnt.framesRx = s.cnt.framesRx := (congrArg Counters.framesRx heard.cnt :)
  have done := octet_done (b := last.2) hquiet rfl
  have completed := done.cntFrame (by rw [hframe]; exact Option.some_ne_none _)
  refine ⟨s1, hrun, framesRx, (congrArg Counters.hdrCrc heard.cnt :), (congrArg Counters.frameAbort heard.cnt :),
    hquiet, hframe, hcounted, _, rfl, ?_, ?_⟩
  · have counted := congrArg Counters.framesRx completed
    rw [hcounted] at counted
    exact counted.trans (congrArg (· + 1) framesRx)
  · rw [done.rx]
    exact (scan_frame _ _ _ _ hframe).1

/-- A valid configuration's intervals are at least 1 (R43, R352). -/
theorem listens_of_configured {s : State} (h : s.Configured) (hi : s.ring.state = .idle) : Listens s := by
  obtain ⟨-, -, -, -, hrate, ⟨-, -, -, hnoToken, -⟩, ⟨-, hturnaround⟩, -⟩ := (validCfg_iff s.cfg).mp h.cfgOk
  exact ⟨hi, h.turnaround ▸ (bitTimesRoundUp _ _ hturnaround hrate).1, hnoToken⟩

/-- A good data frame to this station or to all, handled in IDLE with room in `INQ`, is delivered (R315, R375). -/
theorem frameHandler_delivers {s : State} {dest src : Byte} {p : Octets} (hi : s.ring.state = .idle)
    (hto : dest = s.cfg.thisStation ∨ dest = 255) (hroom : s.inq.length < s.build.inqCap)
    (hlen : BitVec.ofNat 16 p.length ≠ 0) :
    frameHandler (sentFrame 6 dest src p) s = { s with inq := s.inq ++ [{ payload := p, src := src }] } := by
  have handled := (dnerFrameMeaning (sentFrame 6 dest src p).body s).1 hi hto
  rw [if_pos ⟨hlen, rfl⟩, if_neg (by omega)] at handled
  exact Host.Outcome.next.inj ((exec_ofFrame (sentFrame 6 dest src p) s).symm.trans handled)

/-- The step of the octet that completes such a frame delivers it and changes nothing else of the station. -/
theorem octet_delivers {s : State} {t : Time} {b dest src : Byte} {p : Octets} (hl : Listens s) (hq : Quiet t s)
    (hto : dest = s.cfg.thisStation ∨ dest = 255) (hroom : s.inq.length < s.build.inqCap)
    (hlen : BitVec.ofNat 16 p.length ≠ 0)
    (hframe : (scan s.build.maxPayload s.rx b).frame = some (sentFrame 6 dest src p)) :
    ∃ s', exec (.octet t b) s = .next s' ∧ s'.inq = s.inq ++ [{ payload := p, src := src }] ∧
      s'.ring = s.ring ∧ s'.lineTx = s.lineTx ∧ s'.outq = s.outq := by
  have listening : listening s.ring.state = true := by rw [hl.idle]; rfl
  have acted := octetAction_some b (setNow t s) _ hframe
  rw [frameHandler_delivers (by exact hl.idle) (by exact hto) (by exact hroom) hlen] at acted
  exact ⟨_, event_evaluates rfl hq acted rfl
    (evaluate_listens ⟨hl.idle, hl.turnaround, hl.noToken⟩ rfl (if_pos listening)), rfl, rfl, rfl, rfl⟩

/-- Settles O33: all octets but the last leave the station as it is, and the last delivers the payload. -/
theorem dataFrameReceivedInIdleIsDelivered : Obligations.DataFrameReceivedInIdleIsDelivered := by
  intro s dest src p events hinv hv hidle hs h1 hp hroom hto hwire hprompt
  have hlisten := listens_of_configured (hinv.configured hv) hidle
  have hm : s.build.maxPayload ≤ 65535 := hinv.buildOk.1
  have hlen : BitVec.ofNat 16 p.length ≠ 0 := fun h => by bv_omega
  rcases List.eq_nil_or_concat events with rfl | ⟨init, last, rfl⟩
  · have nonempty := encodeFrame_length 6 dest src p
    rw [← hwire, if_neg (by omega)] at nonempty
    exact absurd nonempty (by simp)
  · rw [List.concat_eq_append] at hwire hprompt ⊢
    rw [List.map_append] at hwire
    obtain ⟨s1, rx, hrun, heard, hquiet, -, hframe⟩ := encodeFrame_heard hv hs hp hm hwire hprompt
    obtain ⟨hring, hline, houtq⟩ := heard.listens hlisten
    obtain ⟨s', hstep, hinq, hring', hline', houtq'⟩ := octet_delivers (hlisten.of_kept heard.kept hring) hquiet
      (heard.kept.cfg ▸ hto) (by rw [heard.inq, heard.kept.build]; exact hroom) hlen hframe
    refine ⟨s', ?_, heard.inq ▸ hinq, hring'.trans hring, hline'.trans hline, houtq'.trans houtq⟩
    have split : octetInstrs (init ++ [last]) = octetInstrs init ++ [.octet last.1 last.2] := List.map_append
    rw [split, execAll_append _ _ s s1 hrun]
    simp only [execAll, hstep]

end Sys2Proof.Machine
end

section
/-! PROOF. The discovery sweep (O59) and the tick after every deadline (O60). -/

namespace Sys2Proof.Machine

/-! ## The successors of this station (R300) -/

/-- The `k`-th address of the sweep. -/
def probe (cfg : Cfg) (k : Nat) : Addr := (succ cfg)^[k] (succ cfg cfg.thisStation)

theorem probe_succ (cfg : Cfg) (k : Nat) : probe cfg (k + 1) = succ cfg (probe cfg k) :=
  Function.iterate_succ_apply' _ _ _

theorem succ_toNat (cfg : Cfg) (a : Addr) : (succ cfg a).toNat = (a.toNat + 1) % (cfg.nmaxMaster.toNat + 1) := by
  have hmod : (a.toNat + 1) % (cfg.nmaxMaster.toNat + 1) < cfg.nmaxMaster.toNat + 1 := Nat.mod_lt _ (Nat.succ_pos _)
  have hmax := cfg.nmaxMaster.isLt
  rw [succ, BitVec.toNat_ofNat, Nat.mod_eq_of_lt (by omega)]

theorem probe_toNat_mod (cfg : Cfg) (k : Nat) :
    (probe cfg k).toNat = (cfg.thisStation.toNat + 1 + k) % (cfg.nmaxMaster.toNat + 1) := by
  induction k with
  | zero => exact succ_toNat _ _
  | succ k ih => rw [probe_succ, succ_toNat, ih, Nat.mod_add_mod, Nat.add_assoc _ k 1]

/-- In the first round the sweep runs up to the highest address and goes on from 0. -/
theorem probe_toNat {cfg : Cfg} {k : Nat} (hst : cfg.thisStation ≤ cfg.nmaxMaster) (hk : k ≤ cfg.nmaxMaster.toNat) :
    (probe cfg k).toNat =
      if cfg.thisStation.toNat + k < cfg.nmaxMaster.toNat then cfg.thisStation.toNat + 1 + k
      else cfg.thisStation.toNat + k - cfg.nmaxMaster.toNat := by
  have hle : cfg.thisStation.toNat ≤ cfg.nmaxMaster.toNat := hst
  rw [probe_toNat_mod]
  split
  · exact Nat.mod_eq_of_lt (by omega)
  · rw [Nat.mod_eq_sub_mod (by omega), Nat.mod_eq_of_lt (by omega)]
    omega

section
variable {cfg : Cfg} (hst : cfg.thisStation ≤ cfg.nmaxMaster)
include hst

theorem probe_returns : probe cfg cfg.nmaxMaster.toNat = cfg.thisStation := by
  have hround := probe_toNat hst (Nat.le_refl _)
  rw [if_neg (by omega)] at hround
  exact BitVec.eq_of_toNat_eq (by omega)

theorem probe_ne_thisStation {k : Nat} (hk : k < cfg.nmaxMaster.toNat) : probe cfg k ≠ cfg.thisStation := by
  have hround := probe_toNat hst (Nat.le_of_lt hk)
  intro h
  rw [h] at hround
  split at hround <;> omega

theorem probe_injective {j k : Nat} (hj : j < cfg.nmaxMaster.toNat) (hk : k < cfg.nmaxMaster.toNat)
    (h : probe cfg j = probe cfg k) : j = k := by
  have hround := probe_toNat hst (Nat.le_of_lt hj)
  rw [h, probe_toNat hst (Nat.le_of_lt hk)] at hround
  have hle : cfg.thisStation.toNat ≤ cfg.nmaxMaster.toNat := hst
  split at hround <;> split at hround <;> omega

/-- Addresses above this station are reached before the wrap, those below it after. -/
theorem exists_probe {a : Addr} (ha : a ≤ cfg.nmaxMaster) (hne : a ≠ cfg.thisStation) :
    ∃ k < cfg.nmaxMaster.toNat, probe cfg k = a := by
  have hle : cfg.thisStation.toNat ≤ cfg.nmaxMaster.toNat := hst
  have hale : a.toNat ≤ cfg.nmaxMaster.toNat := ha
  rcases Nat.lt_or_gt_of_ne (fun h => hne (BitVec.eq_of_toNat_eq h)) with below | above
  · have hk : a.toNat + cfg.nmaxMaster.toNat - cfg.thisStation.toNat < cfg.nmaxMaster.toNat := by omega
    refine ⟨_, hk, BitVec.eq_of_toNat_eq ?_⟩
    rw [probe_toNat hst (Nat.le_of_lt hk), if_neg (by omega)]
    omega
  · have hk : a.toNat - cfg.thisStation.toNat - 1 < cfg.nmaxMaster.toNat := by omega
    refine ⟨_, hk, BitVec.eq_of_toNat_eq ?_⟩
    rw [probe_toNat hst (Nat.le_of_lt hk), if_pos (by omega)]
    omega

end

/-! ## The run of the sweep -/

/-- A POLL_FOR_MASTER entered afresh, with the receiver hunting, and ticks for a whole sweep. -/
structure SweepStarts (s : State) (t : Nat → Time) : Prop where
  cfgValid : s.cfgValid = true
  station : s.cfg.thisStation ≤ s.cfg.nmaxMaster
  hunt : s.rx.state = .hunt
  poll : s.ring.state = .pollForMaster
  pollStation : s.ring.pollStation = probe s.cfg 0
  unsent : s.ring.pfmSent = false
  silence : s.timing.tsNoToken ≤ s.timing.now
  rxLast : s.timing.rxLast ≤ s.timing.now
  first : s.timing.now ≤ t 0
  turnaround : s.tTurnaround ≤ t 0 - s.timing.rxLast
  spaced : ∀ k < s.cfg.nmaxMaster.toNat, (t k).toNat + s.cfg.tPollTimeout.toNat ≤ (t (k + 1)).toNat
  ends : (t s.cfg.nmaxMaster.toNat).toNat < s.timing.tsNoToken.toNat + s.cfg.tNoToken.toNat

namespace SweepStarts
variable {s : State} {t : Nat → Time} (h : SweepStarts s t)
include h

theorem monotone {j k : Nat} (hjk : j ≤ k) (hk : k ≤ s.cfg.nmaxMaster.toNat) : (t j).toNat ≤ (t k).toNat := by
  induction k, hjk using Nat.le_induction with
  | base => exact Nat.le_refl _
  | succ k _ ih =>
    have step := h.spaced k hk
    have before := ih (Nat.le_of_succ_le hk)
    omega

theorem now_le {k : Nat} (hk : k ≤ s.cfg.nmaxMaster.toNat) : s.timing.now.toNat ≤ (t k).toNat :=
  Nat.le_trans h.first (h.monotone (Nat.zero_le k) hk)

theorem not_expired {k : Nat} (hk : k ≤ s.cfg.nmaxMaster.toNat) :
    ¬ s.cfg.tNoToken.setWidth 64 ≤ t k - s.timing.tsNoToken := by
  have hsilence := h.silence
  have hnow := h.now_le hk
  have hlast := h.monotone hk (Nat.le_refl _)
  have hends := h.ends
  bv_omega

theorem turnaround_over {k : Nat} (hk : k ≤ s.cfg.nmaxMaster.toNat) : s.tTurnaround ≤ t k - s.timing.rxLast := by
  have hrxLast := h.rxLast
  have hfirst := h.first
  have hlater := h.monotone (Nat.zero_le k) hk
  have hturn := h.turnaround
  bv_omega

theorem poll_expired {k : Nat} (hk : k < s.cfg.nmaxMaster.toNat) :
    s.cfg.tPollTimeout.setWidth 64 ≤ t (k + 1) - t k := by
  have step := h.spaced k hk
  bv_omega

end SweepStarts

/-- The emission of the `k`-th probe. -/
def probeEmission (cfg : Cfg) (t : Nat → Time) (k : Nat) : Transmission :=
  { time := t k, octets := encodeFrame 1 (probe cfg k) cfg.thisStation [] }

/-- The state after the first `k + 1` ticks of the sweep: the probe of the address `k` is out. -/
structure Swept (s : State) (t : Nat → Time) (k : Nat) (u : State) : Prop where
  cfg : u.cfg = s.cfg
  cfgValid : u.cfgValid = s.cfgValid
  tTurnaround : u.tTurnaround = s.tTurnaround
  rx : u.rx = s.rx
  outq : u.outq = s.outq
  inq : u.inq = s.inq
  ring : u.ring = { s.ring with pollStation := probe s.cfg k, pfmSent := true }
  timing : u.timing = { s.timing with now := t k, tsPoll := t k }
  lineTx : u.lineTx = s.lineTx ++ (List.range (k + 1)).map (probeEmission s.cfg t)

/-- The first tick probes the successor of this station (R282). -/
theorem sweep_first {s : State} {t : Nat → Time} (h : SweepStarts s t) (hn : 0 < s.cfg.nmaxMaster.toNat) :
    ∃ u, exec (.tick (t 0)) s = .next u ∧ Swept s t 0 u := by
  have other : s.ring.pollStation ≠ s.cfg.thisStation := h.pollStation ▸ probe_ne_thisStation h.station hn
  have probed := evaluate_poll_probes (s := setNow (t 0) s) h.poll (h.not_expired (Nat.zero_le _)) h.unsent other
    (h.turnaround_over (Nat.zero_le _))
  refine ⟨_, tick_evaluates ⟨h.cfgValid, h.first, .inl h.hunt⟩ probed, ?_⟩
  constructor
  case ring => simp [setPfmSent, sendProbe_eq, setNow, ← h.pollStation]
  case lineTx => simp [setPfmSent, sendProbe_eq, setNow, probeEmission, h.pollStation]
  all_goals rfl

section
variable {s u : State} {t : Nat → Time} {k : Nat} (h : SweepStarts s t) (hk : k < s.cfg.nmaxMaster.toNat) (hu : Swept s t k u)
include h hk hu

/-- Once a probe is out, the next tick moves the sweep on (R283). -/
theorem sweep_advances {v : State} (hv : nextProbe (setNow (t (k + 1)) u) = v) :
    exec (.tick (t (k + 1))) u = .next { v with
      responses := v.responses ++ [{ port := .clock, result := .ok, entry := none }] } := by
  have later : u.timing.now ≤ t (k + 1) := by
    rw [hu.timing]
    exact h.monotone (Nat.le_succ k) hk
  refine tick_evaluates ⟨hu.cfgValid.trans h.cfgValid, later, .inl (by rw [hu.rx]; exact h.hunt)⟩ (.trans ?_ hv)
  apply evaluate_poll_advances
  · rw [setNow_ring, hu.ring]; exact h.poll
  · simp only [setNow, hu.cfg, hu.timing]; exact h.not_expired hk
  · rw [setNow_ring, hu.ring]
  · simp only [setNow, hu.cfg, hu.timing]; exact h.poll_expired hk

theorem sweep_goes_on (hk1 : k + 1 < s.cfg.nmaxMaster.toNat) :
    ∃ v, exec (.tick (t (k + 1))) u = .next v ∧ Swept s t (k + 1) v := by
  have next : succ u.cfg u.ring.pollStation = probe s.cfg (k + 1) := by rw [hu.cfg, hu.ring, probe_succ]
  have other : succ u.cfg u.ring.pollStation ≠ u.cfg.thisStation := by
    rw [next, hu.cfg]; exact probe_ne_thisStation h.station hk1
  have free : u.tTurnaround ≤ t (k + 1) - u.timing.rxLast := by
    rw [hu.tTurnaround, hu.timing]; exact h.turnaround_over hk
  refine ⟨_, sweep_advances h hk hu (nextProbe_probes (s := setNow (t (k + 1)) u) other free), ?_⟩
  constructor
  case ring => simp [sendProbe_eq, advancePoll, setNow, hu.ring, hu.cfg, ← probe_succ]
  case timing => simp [sendProbe_eq, advancePoll, setNow, hu.timing]
  case lineTx =>
    simp [sendProbe_eq, advancePoll, setNow, hu.lineTx, hu.cfg, hu.ring, ← probe_succ, List.range_succ (n := k + 1),
      probeEmission]
  case cfg => exact hu.cfg
  case cfgValid => exact hu.cfgValid
  case tTurnaround => exact hu.tTurnaround
  case rx => exact hu.rx
  case outq => exact hu.outq
  case inq => exact hu.inq

end

/-- The TICKs of the first `n` times. -/
def ticks (t : Nat → Time) (n : Nat) : List Instr := (List.range n).map fun k => .tick (t k)

theorem execAll_ticks_succ {t : Nat → Time} {n : Nat} {s u v : State} (h : execAll (ticks t n) s = .next u)
    (hv : exec (.tick (t n)) u = .next v) : execAll (ticks t (n + 1)) s = .next v := by
  have split : ticks t (n + 1) = ticks t n ++ [.tick (t n)] := by simp [ticks, List.range_succ]
  rw [split, execAll_append _ _ s u h]
  simp only [execAll, hv]

/-- As long as addresses are left, each tick has sent one more probe. -/
theorem sweep_run {s : State} {t : Nat → Time} (h : SweepStarts s t) {k : Nat} (hk : k < s.cfg.nmaxMaster.toNat) :
    ∃ u, execAll (ticks t (k + 1)) s = .next u ∧ Swept s t k u := by
  induction k with
  | zero =>
    obtain ⟨u, hstep, hu⟩ := sweep_first h hk
    exact ⟨u, execAll_ticks_succ (u := s) rfl hstep, hu⟩
  | succ k ih =>
    obtain ⟨u, hrun, hu⟩ := ih (Nat.lt_of_succ_lt hk)
    obtain ⟨v, hstep, hv⟩ := sweep_goes_on h (Nat.lt_of_succ_lt hk) hu hk
    exact ⟨v, execAll_ticks_succ hrun hstep, hv⟩

/-- What the last tick of a sweep leaves (R283, R284). -/
structure Promoted (s : State) (t : Nat → Time) (s' : State) : Prop where
  lineTx : s'.lineTx = s.lineTx ++ (List.range s.cfg.nmaxMaster.toNat).map (probeEmission s.cfg t)
  ring : s'.ring = { s.ring with
    state := .useToken, frameCount := 0, pollStation := s.cfg.thisStation, pfmSent := false
    soleMaster := true, nextStation := s.cfg.thisStation }
  now : s'.timing.now = t s.cfg.nmaxMaster.toNat
  tsUsage : s'.timing.tsUsage = t s.cfg.nmaxMaster.toNat
  rx : s'.rx = s.rx
  outq : s'.outq = s.outq
  inq : s'.inq = s.inq

/-- A ring of one address: this station is promoted without a probe (R281). -/
theorem sweep_alone {s : State} {t : Nat → Time} (h : SweepStarts s t) (hn : s.cfg.nmaxMaster.toNat = 0) :
    ∃ s', exec (.tick (t 0)) s = .next s' ∧ Promoted s t s' := by
  have back : s.ring.pollStation = s.cfg.thisStation := by
    rw [h.pollStation, ← probe_returns h.station, hn]
  have promoted := evaluate_poll_promotes (s := setNow (t 0) s) h.poll (h.not_expired (Nat.zero_le _)) h.unsent back
  refine ⟨_, tick_evaluates ⟨h.cfgValid, h.first, .inl h.hunt⟩ promoted, ?_⟩
  constructor
  case lineTx => simp [promote_eq, setNow, hn]
  case ring => simp [promote_eq, setNow, back, h.unsent]
  case now => rw [hn]; rfl
  case tsUsage => rw [hn]; rfl
  all_goals rfl

/-- The tick after the last probe comes back to this station and promotes it (R283). -/
theorem sweep_last {s u : State} {t : Nat → Time} {k : Nat} (h : SweepStarts s t) (hn : s.cfg.nmaxMaster.toNat = k + 1)
    (hu : Swept s t k u) : ∃ s', exec (.tick (t (k + 1))) u = .next s' ∧ Promoted s t s' := by
  have back : succ s.cfg (probe s.cfg k) = s.cfg.thisStation := by
    rw [← probe_succ, ← hn, probe_returns h.station]
  have promoted := nextProbe_promotes (s := setNow (t (k + 1)) u) (by simp [hu.cfg, hu.ring, back])
  refine ⟨_, sweep_advances h (by omega) hu promoted, ?_⟩
  constructor
  case lineTx => simp [advancePoll, hn, hu.lineTx]
  case ring => simp [promote_eq, setPfmSent, advancePoll, setNow, back, hu.ring, hu.cfg]
  case now => rw [hn]; rfl
  case tsUsage => rw [hn]; rfl
  case rx => simp [advancePoll, hu.rx]
  case outq => simp [advancePoll, hu.outq]
  case inq => simp [advancePoll, hu.inq]

theorem sweep_promotes {s : State} {t : Nat → Time} (h : SweepStarts s t) :
    ∃ s', execAll (ticks t (s.cfg.nmaxMaster.toNat + 1)) s = .next s' ∧ Promoted s t s' := by
  cases hn : s.cfg.nmaxMaster.toNat with
  | zero =>
    obtain ⟨s', hstep, hs'⟩ := sweep_alone h hn
    exact ⟨s', execAll_ticks_succ (u := s) rfl hstep, hs'⟩
  | succ k =>
    obtain ⟨u, hrun, hu⟩ := sweep_run h (k := k) (by omega)
    obtain ⟨s', hstep, hs'⟩ := sweep_last h hn hu
    exact ⟨s', execAll_ticks_succ hrun hstep, hs'⟩

/-- Settles O59: the successors are this station's orbit under `succ`, and each tick of the run sends the next. -/
theorem sweepProbesEveryOtherAddressOnce : Obligations.SweepProbesEveryOtherAddressOnce := by
  constructor
  · intro cfg hvalid
    obtain ⟨-, hst, -⟩ := (validCfg_iff cfg).mp hvalid
    refine ⟨probe_returns hst, fun k hk => ⟨probe_ne_thisStation hst hk, ?_⟩, fun a ha hne => ?_⟩
    · cases k with
      | zero => exact succ_le_nmaxMaster _ _
      | succ k => exact (probe_succ cfg k).trans_le (succ_le_nmaxMaster _ _)
    · obtain ⟨k, hk, hprobe⟩ := exists_probe hst ha hne
      exact ⟨k, hk, hprobe, fun j hj h => probe_injective hst hj hk (h.trans hprobe.symm)⟩
  · intro s t n _ hv hvalid hrx hs hps hsent hsilence hlast hfirst hturn hspaced hends
    obtain ⟨-, hst, -⟩ := (validCfg_iff s.cfg).mp hvalid
    obtain ⟨s', hrun, hp⟩ := sweep_promotes (s := s) (t := t)
      ⟨hv, hst, hrx, hs, hps, hsent, hsilence, hlast, hfirst, hturn, hspaced, hends⟩
    exact ⟨s', hrun, hp.lineTx, hp.ring, hp.now, hp.tsUsage, hp.rx, hp.outq, hp.inq⟩

/-! ## A tick after every deadline (R321) -/

/-- Every interval that an evaluation rule waits for is over. -/
structure Overdue (s : State) : Prop where
  semantics : s.cfg.replyDelaySemantics = .maximum ∨ s.cfg.replyDelaySemantics = .minimum
  turnaround : s.tTurnaround ≤ s.timing.now - s.timing.rxLast
  noToken : s.cfg.tNoToken.setWidth 64 ≤ s.timing.now - s.timing.tsNoToken
  reply : s.cfg.tReplyTimeout.setWidth 64 ≤ s.timing.now - s.timing.tsReply
  usage : s.cfg.tUsageTimeout.setWidth 64 ≤ s.timing.now - s.timing.tsUsage
  delay : s.cfg.tReplyDelay.setWidth 64 ≤ s.timing.now - s.timing.tsReplyDelay
  answer : s.cfg.tReplyTimeout.setWidth 64 ≤ s.timing.now - s.timing.tsReplyDelay

/-- The ring state is left, or the response that IDLE owes is sent. -/
def Progress (s s' : State) : Prop :=
  s'.ring.state ≠ s.ring.state ∨
  s.ring.state = .idle ∧ s.ring.idleRespKind ≠ .none ∧ s'.ring.idleRespKind = .none ∧
    s'.lineTx.length = s.lineTx.length + 1

theorem evaluate_idle_progress {s : State} (h : Overdue s) (hs : s.ring.state = .idle) : Progress s (evaluate s) := by
  cases ho : s.ring.idleRespKind with
  | none =>
    rw [evaluate_idle_expired hs ho h.noToken]
    exact .inl (by rw [hs]; exact RingState.noConfusion)
  | rpfm =>
    rw [evaluate_idle_sends_rpfm hs ho h.turnaround]
    exact .inr ⟨hs, by simp [ho], rfl, List.length_append⟩
  | testResponse =>
    rw [evaluate_idle_sends_testResponse hs ho h.turnaround]
    exact .inr ⟨hs, by simp [ho], rfl, List.length_append⟩

/-- With every interval over, a held reply is sent or the wait for it ends, under either reading (R286, R287). -/
theorem evaluate_answer_to_idle {s : State} (h : Overdue s) (hs : s.ring.state = .answerDataRequest) :
    (evaluate s).ring.state = .idle := by
  have send : s.tTurnaround ≤ s.timing.now - s.timing.rxLast ∧
      (s.cfg.replyDelaySemantics = .maximum ∨ s.cfg.tReplyDelay.setWidth 64 ≤ s.timing.now - s.timing.tsReplyDelay) :=
    ⟨h.turnaround, .inr h.delay⟩
  rw [evaluate_answer hs h.semantics, if_pos send,
    if_pos (h.semantics.imp (fun hmax => ⟨hmax, h.delay⟩) (fun hmin => ⟨hmin, h.answer⟩))]
  split <;> rfl

theorem evaluate_progress {s : State} (h : Overdue s) : Progress s (evaluate s) := by
  have left {st st' : RingState} (hs : s.ring.state = st) (hev : (evaluate s).ring.state = st') (hne : st' ≠ st) :
      Progress s (evaluate s) := .inl (by rwa [hs, hev])
  cases hs : s.ring.state with
  | init => exact left hs (st' := .idle) (by rw [evaluate_init_expired hs h.noToken]; rfl) (by decide)
  | idle => exact evaluate_idle_progress h hs
  | useToken => exact left hs (st' := .doneWithToken) (by rw [evaluate_useToken_expired hs h.usage]; rfl) (by decide)
  | waitForReply => exact left hs (st' := .doneWithToken) (by rw [evaluate_waitForReply_expired hs h.reply]; rfl) (by decide)
  | doneWithToken =>
    by_cases hn : s.cfg.npoll.toNat ≤ s.ring.tokenCount.toNat
    · exact left hs (st' := .pollForMaster) (by rw [evaluate_doneWithToken_polls hs hn]; rfl) (by decide)
    · exact left hs (st' := .passToken) (by rw [evaluate_doneWithToken_passes hs hn]; rfl) (by decide)
  | passToken =>
    by_cases hn : s.ring.nextStation = s.cfg.thisStation
    · exact left hs (st' := .useToken) (by rw [evaluate_passToken_to_self hs h.turnaround hn]; rfl) (by decide)
    · exact left hs (st' := .idle) (by rw [evaluate_passToken_to_other hs h.turnaround hn]; rfl) (by decide)
  | noToken => exact left hs (st' := .pollForMaster) (by rw [evaluate_noToken_expired hs h.noToken]; rfl) (by decide)
  | pollForMaster => exact left hs (st' := .idle) (by rw [evaluate_poll_expired hs h.noToken]; rfl) (by decide)
  | answerDataRequest => exact left hs (evaluate_answer_to_idle h hs) (by decide)

/-- The frame-abort check leaves the intervals alone, and where it changes the ring state nothing is evaluated. -/
theorem ticked_progress {t : Time} {s : State} (h : Overdue (setNow t s)) : Progress s (ticked t s) := by
  have checked : Overdue (abortCheck (setNow t s)) := by
    constructor <;> simp only [abortCheck_cfg, abortCheck_timing, abortCheck_tTurnaround]
    exacts [h.semantics, h.turnaround, h.noToken, h.reply, h.usage, h.delay, h.answer]
  rcases evaluateIfSame_cases s.ring.state (abortCheck (setNow t s)) with ⟨hsame, hev⟩ | ⟨hchanged, hev⟩
  · have hring : (abortCheck (setNow t s)).ring = s.ring := by
      rcases abortCheck_ring (setNow t s) with hring | ⟨hw, hring⟩
      · exact hring
      · rw [hring, show s.ring.state = .waitForReply from hw] at hsame
        cases hsame
    have progress := evaluate_progress checked
    rwa [Progress, hring, abortCheck_lineTx, ← hev] at progress
  · exact .inl (by rwa [ticked, hev])

/-- An interval that began by `now` is over when it has run since `now`. -/
theorem elapsed {start now t : Time} {d : BitVec 32} (hstart : start ≤ now) (ht : now.toNat + d.toNat ≤ t.toNat) :
    d.setWidth 64 ≤ t - start := by
  bv_omega

/-- Settles O60: no timer runs ahead of the clock, so after the deadlines every interval is over. -/
theorem tickAfterEveryDeadlineLeavesTheState : Obligations.TickAfterEveryDeadlineLeavesTheState := by
  intro s t hinv hv hnoToken hreply hdelay husage hturn
  have configured := hinv.configured hv
  obtain ⟨-, -, -, -, -, -, -, hsemantics⟩ := (validCfg_iff s.cfg).mp configured.cfgOk
  have admitted : s.timing.now ≤ t := Nat.le_trans (Nat.le_add_right _ _) hturn
  have turned : s.tTurnaround ≤ t - s.timing.rxLast := by
    have hlast := configured.rxLast
    bv_omega
  have overdue : Overdue (setNow t s) :=
    { semantics := hsemantics
      turnaround := turned
      noToken := elapsed (configured.timers .noToken) hnoToken
      reply := elapsed (configured.timers .reply) hreply
      usage := elapsed (configured.timers .usage) husage
      delay := elapsed (configured.timers .replyDelay) hdelay
      answer := elapsed (configured.timers .replyDelay) hreply }
  exact ⟨_, exec_tick_admitted hv admitted, ticked_progress overdue⟩

end Sys2Proof.Machine
end
